-- ==== Sys2Proof/Word.lean ====
section
/-! DEFINITION. The words of the 62C and the small vocabularies its commands, straps and records share. -/

namespace Sys2Proof

abbrev Byte := BitVec 8

/-- A node ID: the non-zero 32-bit serial of a node (00_scope.md section 6). -/
abbrev NodeId := BitVec 32

/-- A formation number (R15). -/
abbrev FormationNumber := BitVec 16

/-- A moment or a span in train line bit times, 1 µs each (00_scope.md section 6). -/
abbrev Time := Nat

/-- The two ends of a coach (00_scope.md section 6). -/
inductive CoachEnd where
  | a
  | b
deriving DecidableEq, Repr

/-- The end across the coach. -/
def CoachEnd.other : CoachEnd → CoachEnd
  | .a => .b
  | .b => .a

/-- The two physical sides of a coach (00_scope.md section 6). -/
inductive Side where
  | one
  | two
deriving DecidableEq, Repr

/-- The side across the coach. -/
def Side.other : Side → Side
  | .one => .two
  | .two => .one

/-- COACH_TYPE (00_scope.md section 7). -/
inductive CoachType where
  | trailer
  | cab
  | supply
  | cabSupply
deriving DecidableEq, Repr

/-- The cab types of 00_scope.md section 7. -/
def CoachType.isCab : CoachType → Bool
  | .cab | .cabSupply => true
  | .trailer | .supply => false

/-- The supply types of 00_scope.md section 7. -/
def CoachType.isSupply : CoachType → Bool
  | .supply | .cabSupply => true
  | .trailer | .cab => false

/-- RX_POLICY (00_scope.md section 7, R84). -/
inductive RxPolicy where
  | keepOld
  | keepNew
deriving DecidableEq, Repr

/-- OUT_POL (00_scope.md section 7, R97). -/
inductive OutPol where
  | activeHigh
  | activeLow
deriving DecidableEq, Repr

/-- The two inputs of a door leaf (R108). -/
inductive LeafInput where
  | cl
  | ob
deriving DecidableEq, Repr

/-- What the strap pin groups and the fuses hold when external reset is released (R175).
The pin groups of LEAVES_S1, LEAVES_S2 and HEAT_CH encode 0 to 7, HEAT_KW 0 to 15. -/
structure StrapPins where
  coachType : CoachType
  cabEnd : CoachEnd
  leavesS1 : BitVec 3
  leavesS2 : BitVec 3
  sideRef : Side
  heatCh : BitVec 3
  heatKw : BitVec 4
  rxPolicy : RxPolicy
  outPol : OutPol
  serial : NodeId
deriving DecidableEq, Repr

/-- One character on the receive conductor of an end link (R1): the moment at which its start bit begins, its
eight data bits in the order in which they come, and whether its stop bit is there. -/
structure LineChar where
  start : Time
  data : List Bool
  stop : Bool
deriving DecidableEq, Repr

/-- The six bytes of an end beacon that arrived complete (R190). -/
structure BeaconBytes where
  senderId : NodeId
  senderEnd : Byte
  crc : Byte
deriving DecidableEq, Repr

/-- What the RXP assembled from one carrier of other nodes (R77): the whole bytes, first byte first,
and how many further bits the line carried after the last whole byte. -/
structure Reception where
  bytes : List Byte
  extraBits : Nat
deriving DecidableEq, Repr

end Sys2Proof
end

