-- ==== Sys2Proof/Syntax.lean ====
section
/-! DEFINITION. The commands of the 62C: one constructor for each row of spec/opcode_table.json. -/

namespace Sys2Proof

/-- A command: one whole, indivisible step of the part (95_what_each_step_holds.md).
The operands are what the event brings from outside or which of several like things it is about. -/
inductive Instr where
  /-- EXTERNAL_RESET_ASSERT (R13). -/
  | externalResetAssert
  /-- EXTERNAL_RESET_RELEASE (R176), with the strap pin levels and fuses at that moment. -/
  | externalResetRelease (pins : StrapPins)
  /-- RAW_CONTACT_CHANGE (R2): the raw contact sense input of an end takes a level. -/
  | rawContactChange (e : CoachEnd) (level : Bool)
  /-- DEBOUNCED_CONTACT_ACTIVE (R4). -/
  | debouncedContactActive (e : CoachEnd)
  /-- DEBOUNCED_CONTACT_LOST (R3). -/
  | debouncedContactLost (e : CoachEnd)
  /-- END_BEACON_SEND (R5). -/
  | endBeaconSend (e : CoachEnd)
  /-- END_BEACON_ARRIVAL (R6), with the characters that come to an end's receiver up to the arrival (R1). -/
  | endBeaconArrival (e : CoachEnd) (chars : List LineChar)
  /-- FAULTY_RECEPTION (R1). -/
  | faultyReception (e : CoachEnd)
  /-- BEACON_LOSS (R9). -/
  | beaconLoss (e : CoachEnd)
  /-- TSTART_EXPIRY (R16). -/
  | tstartExpiry
  /-- ROLL_REPEAT (R25). -/
  | rollRepeat
  /-- GATHER_TIMEOUT (R29). -/
  | gatherTimeout
  /-- ORDERING_END (R28). -/
  | orderingEnd
  /-- TALLY_REPEAT (R31). -/
  | tallyRepeat
  /-- TALLY_TIMEOUT (R35). -/
  | tallyTimeout
  /-- MEMBER_SILENT (R51), of the entry at a position. -/
  | memberSilent (position : Nat)
  /-- REFORM (R21): the local port request. -/
  | reform
  /-- CAB_CLAIM (R173): the CAB request, with its claim/release byte. -/
  | cabClaim (code : Byte)
  /-- CAB_RELEASE (R173): the CAB request, with its claim/release byte. -/
  | cabRelease (code : Byte)
  /-- TRANSMIT_TAKE (R63). -/
  | transmitTake
  /-- BREAKTHROUGH_ELIGIBLE (R64). -/
  | breakthroughEligible
  /-- CARRIER_ONSET (R65): another node begins to drive the line. -/
  | carrierOnset
  /-- FRAME_SENT (R68). -/
  | frameSent
  /-- COLLISION (R69), at a position in bit times from the frame's first bit. -/
  | collision (position : Nat)
  /-- JAM_END (R70). -/
  | jamEnd
  /-- BACKOFF_EXPIRY (R70). -/
  | backoffExpiry
  /-- RETRY_ATTEMPT (R67). -/
  | retryAttempt
  /-- LINE_RESET (R174): the local port request. -/
  | lineReset
  /-- FRAME_ARRIVAL (R78): the carrier of other nodes ends. -/
  | frameArrival (reception : Reception)
  /-- FRAME_TAKE (R86). -/
  | frameTake
  /-- HOLD_RESEND (R89). -/
  | holdResend
  /-- OWN_HOLD_EXPIRY (R89). -/
  | ownHoldExpiry
  /-- HOLD_EXPIRY (R92), of the hold list entry of a peer. -/
  | holdExpiry (peer : NodeId)
  /-- A_MATCH (R99), of a leaf channel. -/
  | aMatch (channel : Nat)
  /-- B_MATCH (R99), of a leaf channel. -/
  | bMatch (channel : Nat)
  /-- PWM_COMPARE_A (R101), of a heater channel (8 to 11). -/
  | pwmCompareA (channel : Nat)
  /-- PWM_PERIOD_END (R101), of a heater channel (8 to 11). -/
  | pwmPeriodEnd (channel : Nat)
  /-- RAW_LEAF_INPUT_CHANGE (R108): a raw input of a leaf takes a level. -/
  | rawLeafInputChange (leaf : Nat) (input : LeafInput) (level : Bool)
  /-- LEAF_INPUT_FILTERED (R108). -/
  | leafInputFiltered (leaf : Nat) (input : LeafInput)
  /-- LOCK_COMPLETE (R115). -/
  | lockComplete (leaf : Nat)
  /-- UNLOCK_FAULT (R120). -/
  | unlockFault (leaf : Nat)
  /-- LEAF_RECOVERY (R122). -/
  | leafRecovery (leaf : Nat)
  /-- ISOLATE_ON (R123): the ISOLATE request, with its leaf index and on/off bytes. -/
  | isolateOn (leaf onOff : Byte)
  /-- ISOLATE_OFF (R124): the ISOLATE request, with its leaf index and on/off bytes. -/
  | isolateOff (leaf onOff : Byte)
  /-- DOOR_ISSUE_RELEASE (R128): the DOOR_ISSUE request, with its four argument bytes. -/
  | doorIssueRelease (action side rangeFrom rangeTo : Byte)
  /-- DOOR_ISSUE_CLOSE (R129): the DOOR_ISSUE request, with its four argument bytes. -/
  | doorIssueClose (action side rangeFrom rangeTo : Byte)
  /-- DOORCMD_REPEAT (R132), of the issue with a sequence number. -/
  | doorcmdRepeat (seq : Byte)
  /-- DOORSTAT_PERIOD (R138). -/
  | doorstatPeriod
  /-- DOORSTAT_STALE (R140), of the entry of a position. -/
  | doorstatStale (position : Nat)
  /-- HEAT_DEMAND (R147): the local port request. -/
  | heatDemand (channel frost comfort : Byte)
  /-- SUPPLY_OFFER (R148): the local port request. -/
  | supplyOffer (offer : BitVec 16)
  /-- HEATBID_PERIOD (R150). -/
  | heatbidPeriod
  /-- BID_STALE (R153), of the entry of a position. -/
  | bidStale (position : Nat)
  /-- ALLOCATION_END (R157). -/
  | allocationEnd
  /-- SETTLE_EXPIRY (R158). -/
  | settleExpiry
  /-- HOLD_OVER_EXPIRY (R160). -/
  | holdOverExpiry
  /-- STATUS (R171): the local port request. -/
  | status
  /-- CONSIST_READ (R172): the local port request. -/
  | consistRead (start count : Byte)
  /-- NOTICE_TAKE (R177): the local port request. -/
  | noticeTake
  /-- COUNTER_READ (R181): the local port request. -/
  | counterRead (index : Byte)
  /-- COUNTER_DECREMENT (R182): the local port request. -/
  | counterDecrement (index : Byte) (amount : BitVec 16)
  /-- STRAPS (R175): the local port request. -/
  | straps
  /-- UNKNOWN_REQUEST (R169): a kind byte that encodes no request. -/
  | unknownRequest (kind : Byte)
  /-- CHIP_SELECT_RISE (R169). -/
  | chipSelectRise
  /-- RESPONSE_READY (R170). -/
  | responseReady
  /-- CHIP_SELECT_FALL (R169). -/
  | chipSelectFall
deriving DecidableEq, Repr

end Sys2Proof
end

