-- ==== Sys2Proof/Decode.lean ====
section
/-! DEFINITION. The commands that words spell. No row of spec/opcode_table.json gives bits ("fields" is empty
in all 66 rows): a command is an event of a pin, a frame or a request record, not a word. -/

namespace Sys2Proof

/-- No word spells a command of this block (log entry 4). -/
def decodeTableWord (_nbits _w : Nat) : Option Instr := none

end Sys2Proof
end

