-- ==== Sys2Proof/Config.lean ====
section
/-! DEFINITION. The parameters of the 62C (the parameter tables of the chapters, in bit times, counts or
positions) and the free value of the back-off generator. -/

namespace Sys2Proof.Config

/-- Milliseconds in bit times (00_scope.md section 6: one bit time is 1 µs). -/
abbrev ms (n : Nat) : Time := n * 1000

/-- tCONTACT (01 section 1.1). -/
abbrev tCONTACT : Time := ms 200
/-- tBEACON (01 section 1.1). -/
abbrev tBEACON : Time := ms 50
/-- tBLOSS (01 section 1.1). -/
abbrev tBLOSS : Time := ms 150
/-- tEBCN, 3.125 ms: six characters sent back to back (01 section 1.1). -/
abbrev tEBCN : Time := 3125
/-- tECHR, 0.521 ms (01 section 1.1). -/
abbrev tECHR : Time := 521
/-- tEGAP (01 section 1.1). -/
abbrev tEGAP : Time := ms 2
/-- Characters of an end beacon (R1). -/
abbrev beaconChars : Nat := 6
/-- tSTART (02 section 2.1). -/
abbrev tSTART : Time := ms 500
/-- tROLL (02 section 2.1). -/
abbrev tROLL : Time := ms 100
/-- tGATHER (02 section 2.1). -/
abbrev tGATHER : Time := ms 1000
/-- tTREP (02 section 2.1). -/
abbrev tTREP : Time := ms 100
/-- tTALLY (02 section 2.1). -/
abbrev tTALLY : Time := ms 500
/-- tORDER, the longest ordering computation (02 section 2.1). -/
abbrev tORDER : Time := ms 4
/-- FAIL_LIMIT (02 section 2.1). -/
abbrev failLimit : Nat := 4
/-- Capacity of the candidate table (02 section 2.1). -/
abbrev candidateCap : Nat := 32
/-- Capacity of the early-tally list (02 section 2.1). -/
abbrev earlyTallyCap : Nat := 32
/-- tSILENT (03 section 3.1). -/
abbrev tSILENT : Time := ms 2000
/-- tGAPN (04 section 4.1). -/
abbrev tGAPN : Time := 64
/-- tGAPS (04 section 4.1). -/
abbrev tGAPS : Time := 32
/-- tSLOT (04 section 4.1). -/
abbrev tSLOT : Time := 128
/-- tJAM (04 section 4.1). -/
abbrev tJAM : Time := 16
/-- tLATE (04 section 4.1). -/
abbrev tLATE : Nat := 128
/-- URGENT_MARK (04 section 4.1). -/
abbrev urgentMark : Nat := 6
/-- ABANDON_LIMIT (04 section 4.1). -/
abbrev abandonLimit : Nat := 12
/-- BACKOFF_CAP (04 section 4.1). -/
abbrev backoffCap : Nat := 6
/-- tBREAK (04 section 4.1). -/
abbrev tBREAK : Time := ms 2000
/-- Capacity of the SAFETY queue (R58). -/
abbrev safetyCap : Nat := 6
/-- Capacity of the CONSIST queue (R58). -/
abbrev consistCap : Nat := 2
/-- Capacity of the SUPPLY queue (R58). -/
abbrev supplyCap : Nat := 1
/-- RXQ_SIZE (05 section 5.1). -/
abbrev rxqSize : Nat := 16
/-- HIGH_MARK (05 section 5.1). -/
abbrev highMark : Nat := 12
/-- LOW_MARK (05 section 5.1). -/
abbrev lowMark : Nat := 4
/-- HOLD_LIST (05 section 5.1). -/
abbrev holdListCap : Nat := 4
/-- tHSEND in ms, as a HOLD carries it (05 section 5.1). -/
abbrev holdSendMs : Nat := 200
/-- tHSEND (05 section 5.1). -/
abbrev tHSEND : Time := ms 200
/-- tHMAX in ms (05 section 5.1). -/
abbrev holdMaxMs : Nat := 1000
/-- tHRESEND (05 section 5.1). -/
abbrev tHRESEND : Time := ms 50
/-- tALLOC, the longest allocation computation (05 section 5.1). -/
abbrev tALLOC : Time := ms 2
/-- tPWM in ms (06 section 6.1). -/
abbrev pwmMs : Nat := 2000
/-- Bank phase cycle in ms (06 section 6.1). -/
abbrev bankCycleMs : Nat := 2000
/-- Channel step of the stagger in ms (06 section 6.1). -/
abbrev staggerStepMs : Nat := 500
/-- Number of timer channels (06 section 6.1). -/
abbrev channelCount : Nat := 12
/-- Channel of heater channel 0 (R95). -/
abbrev heaterBase : Nat := 8
/-- tINF (07 section 7.1). -/
abbrev tINF : Time := ms 10
/-- Compares of a first close run, in ms (07 section 7.1). -/
abbrev closeA : Nat := 3000
abbrev closeB : Nat := 11000
/-- Compares of the run after an obstruction, in ms (07 section 7.1). -/
abbrev reopenA : Nat := 2000
abbrev reopenB : Nat := 10000
/-- OBS_LIMIT (07 section 7.1). -/
abbrev obsLimit : Nat := 3
/-- tCLSET (07 section 7.1). -/
abbrev tCLSET : Time := ms 50
/-- tUNLOCK (07 section 7.1). -/
abbrev tUNLOCK : Time := ms 200
/-- tRECOVER (07 section 7.1). -/
abbrev tRECOVER : Time := ms 1000
/-- tDREP (08 section 8.1). -/
abbrev tDREP : Time := ms 20
/-- Copies of each issue (08 section 8.1). -/
abbrev copies : Nat := 3
/-- Repeat schedule capacity (08 section 8.1). -/
abbrev scheduleCap : Nat := 4
/-- De-duplication table capacity (08 section 8.1). -/
abbrev dedupCap : Nat := 4
/-- Sequence numbers held per de-duplication entry (08 section 8.1). -/
abbrev dedupSeqs : Nat := 4
/-- tDSTAT (08 section 8.1). -/
abbrev tDSTAT : Time := ms 250
/-- tDFRESH (08 section 8.1). -/
abbrev tDFRESH : Time := ms 750
/-- tBID (09 section 9.1). -/
abbrev tBID : Time := ms 1000
/-- tBFRESH (09 section 9.1). -/
abbrev tBFRESH : Time := ms 3000
/-- tSETTLE (09 section 9.1). -/
abbrev tSETTLE : Time := ms 2000
/-- tHOLDOVER (09 section 9.1). -/
abbrev tHOLDOVER : Time := ms 10000
/-- Largest supply offer in kW (09 section 9.1). -/
abbrev offerMax : Nat := 1000
/-- tRESP, the longest response preparation (10 section 10.1). -/
abbrev tRESP : Time := 8
/-- Notice queue capacity (10 section 10.1). -/
abbrev noticeCap : Nat := 16
/-- Counter alert threshold (10 section 10.1). -/
abbrev alertMark : Nat := 32768

/-- FREE VALUE (log entry 7): the k-th number that the back-off generator of the node with this serial
draws after external reset release. R70 gives only the range into which `Machine.backoffSlots` takes it. -/
opaque backoffDraw (serial : NodeId) (k : Nat) : Nat

end Sys2Proof.Config
end

