-- ==== Sys2Proof/Machine/Blocks.lean ====
section
/-! DEFINITION. The blocks of 00_scope.md section 3 as plain data, each with its values at external reset
release. A timer is held as the time at which it runs out, `none` while it is stopped; external reset release
is time 0. -/

namespace Sys2Proof.Machine

/-! ### Straps (R175) -/

/-- The strap record latched at external reset release, with the node serial (R175). -/
structure Straps where
  coachType : CoachType
  cabEnd : CoachEnd
  leavesS1 : Nat
  leavesS2 : Nat
  sideRef : Side
  heatCh : Nat
  heatKw : Nat
  rxPolicy : RxPolicy
  outPol : OutPol
  serial : NodeId
deriving DecidableEq, Repr

/-- A value of 5 to 7 on a count's pin group is latched as 4 (R175). -/
def latchCount (v : BitVec 3) : Nat := min v.toNat 4

/-- The latch of R175. -/
def Straps.latch (p : StrapPins) : Straps where
  coachType := p.coachType
  cabEnd := p.cabEnd
  leavesS1 := latchCount p.leavesS1
  leavesS2 := latchCount p.leavesS2
  sideRef := p.sideRef
  heatCh := latchCount p.heatCh
  heatKw := p.heatKw.toNat
  rxPolicy := p.rxPolicy
  outPol := p.outPol
  serial := p.serial

/-- The heater channel rating in kW (00_scope.md section 7). -/
def Straps.rating (st : Straps) : Nat := 2 * (st.heatKw + 1)

/-! ### Pins -/

/-- The input pins whose levels the node reads. They live on through external reset. -/
structure Pins where
  /-- Raw contact sense inputs (R2). -/
  contactA : Bool
  contactB : Bool
  /-- Raw CL and OB inputs by leaf index (R108), eight each. -/
  cl : List Bool
  ob : List Bool
  /-- Chip select is low (R169). -/
  csLow : Bool
  /-- Another node drives the train line (R65). -/
  peerCarrier : Bool
deriving DecidableEq, Repr

/-! ### End links (chapter 1) -/

/-- End link states (01 section 1.3): OPEN, COUPLED, PAIRED. -/
inductive EndState where
  | openEnd
  | coupled
  | paired
deriving DecidableEq, Repr

/-- A neighbour record (01 section 1.3). -/
structure Neighbour where
  id : NodeId
  coachEnd : CoachEnd
deriving DecidableEq, Repr

/-- The beacon last put on the transmit conductor: its bytes, when it started, and how many of its
characters go out (six, or fewer when R3 or R13 cut it off). -/
structure BeaconTx where
  bytes : List Byte
  startedAt : Time
  chars : Nat
deriving DecidableEq, Repr

/-- What an end's receiver has of a reception (R1): nothing since it began listening, one to five characters of
a beacon, a complete beacon and no idle time since, or a faulty reception that it discards. -/
inductive ReceiverPhase where
  | waiting
  | assembling (bytes : List Byte)
  | afterBeacon
  | discarding
deriving DecidableEq, Repr

/-- An end's receiver (R1): the receive conductor counts as idle from `quietFrom` on, the end of the last
character or, with none seen, the moment at which the receiver began listening. It means something only while
the end is COUPLED or PAIRED. -/
structure EndReceiver where
  quietFrom : Time
  phase : ReceiverPhase
deriving DecidableEq, Repr

/-- End status (R11). -/
inductive EndStatus where
  | openEnd
  | unpaired
  | paired (id : NodeId) (coachEnd : CoachEnd)
deriving DecidableEq, Repr

/-- One end link (R12). -/
structure EndLink where
  debounced : Bool
  debounce : Option Time
  state : EndState
  neighbour : Option Neighbour
  loss : Option Time
  beacon : Option Time
  sending : Option BeaconTx
  rx : EndReceiver
deriving DecidableEq, Repr

/-- R13, with the debounce started from the raw level sampled at release (R2). -/
def EndLink.atRelease (raw : Bool) : EndLink where
  debounced := false
  debounce := if raw then some Config.tCONTACT else none
  state := .openEnd
  neighbour := none
  loss := none
  beacon := none
  sending := none
  rx := { quietFrom := 0, phase := .waiting }

/-! ### Frames (R186 to R188) -/

/-- The seven frame kinds (00_scope.md section 5.1). -/
inductive FrameKind where
  | reform
  | roll
  | tally
  | doorcmd
  | doorstat
  | heatbid
  | hold
deriving DecidableEq, Repr

/-- A frame: the header fields of R186 and the payload bytes of R188. -/
structure Frame where
  kind : FrameKind
  sender : NodeId
  number : FormationNumber
  position : Byte
  payload : List Byte
deriving DecidableEq, Repr

/-! ### Consist Controller (chapters 2 and 3) -/

/-- Formation states (02 section 2.3). -/
inductive FormState where
  | start
  | gather
  | tally
  | formed
  | solo
deriving DecidableEq, Repr

/-- The own cab state (R21). -/
inductive OwnCab where
  | noClaim
  | requested
  | active
deriving DecidableEq, Repr

/-- A member's cab result (R42). -/
inductive CabResult where
  | noCab
  | active
  | denied
deriving DecidableEq, Repr

/-- The reason codes of a REFORM frame (02 section 2.5). -/
inductive ReformReason where
  | coupling
  | stranger
  | rollChanged
  | mismatch
  | timeout
  | cab
  | request
  | start
deriving DecidableEq, Repr

/-- A ROLL record (02 section 2.6). -/
structure RollRecord where
  id : NodeId
  endA : EndStatus
  endB : EndStatus
  coachType : CoachType
  cabEnd : CoachEnd
  cab : OwnCab
  leavesS1 : Nat
  leavesS2 : Nat
  heaters : Nat
  ratedHeat : Nat
  supply : Bool
deriving DecidableEq, Repr

/-- The three fields of a TALLY (02 section 2.7). -/
structure Tally where
  n : Nat
  digest : BitVec 32
  partialFlag : Bool
deriving DecidableEq, Repr

/-- An early-tally list entry (R32). -/
structure EarlyTally where
  sender : NodeId
  tally : Tally
deriving DecidableEq, Repr

/-- One record of the chain an ordering computation reads, with its end that faces the chain's head. -/
structure ChainLink where
  record : RollRecord
  facing : CoachEnd
deriving DecidableEq, Repr

/-- An ordering computation in progress (R28): its input, fixed when it started, the PARTIAL flag, and
the moment by which it ends. -/
structure OrderingRun where
  chain : List ChainLink
  partialFlag : Bool
  endsBy : Time
deriving DecidableEq, Repr

/-- One entry of a candidate order (R41). Its position is its place in the list, from 1. -/
structure Member where
  id : NodeId
  orientation : CoachEnd
  cab : CabResult
  coachType : CoachType
  leavesS1 : Nat
  leavesS2 : Nat
  heaters : Nat
  ratedHeat : Nat
  supply : Bool
deriving DecidableEq, Repr

/-- A candidate order (R41). The own position is where the own node ID stands in it. -/
structure CandidateOrder where
  members : List Member
  partialFlag : Bool
  digest : BitVec 32
deriving DecidableEq, Repr

/-- One entry of the current consist table (R47). -/
structure TableEntry where
  member : Member
  silent : Bool
  lastHeard : Time
deriving DecidableEq, Repr

/-- The current consist table with its two flags (R47). -/
structure ConsistTable where
  entries : List TableEntry
  stale : Bool
  partialFlag : Bool
deriving DecidableEq, Repr

/-- The Consist Controller. -/
structure Cc where
  formState : FormState
  number : FormationNumber
  tStart : Option Time
  rollRepeat : Option Time
  tGather : Option Time
  tallyRepeat : Option Time
  tTally : Option Time
  candidates : List RollRecord
  oversize : Bool
  earlyTallies : List EarlyTally
  agreement : List Nat
  ordering : Option OrderingRun
  abandoned : List Time
  candidateOrder : Option CandidateOrder
  failedCount : Nat
  ownCab : OwnCab
  table : ConsistTable
deriving DecidableEq, Repr

/-- The own record (R25) for given end statuses and cab state. -/
def ownRecordOf (st : Straps) (endA endB : EndStatus) (cab : OwnCab) : RollRecord where
  id := st.serial
  endA := endA
  endB := endB
  coachType := st.coachType
  cabEnd := st.cabEnd
  cab := cab
  leavesS1 := st.leavesS1
  leavesS2 := st.leavesS2
  heaters := st.heatCh
  ratedHeat := st.heatCh * st.rating
  supply := st.coachType.isSupply

/-- A table entry whose fields come from a record (R41), with its orientation and cab state. -/
def Member.ofRecord (r : RollRecord) (orientation : CoachEnd) (cab : CabResult) : Member where
  id := r.id
  orientation := orientation
  cab := cab
  coachType := r.coachType
  leavesS1 := r.leavesS1
  leavesS2 := r.leavesS2
  heaters := r.heaters
  ratedHeat := r.ratedHeat
  supply := r.supply

/-- R40 and R57; tSTART starts at release (R16, R176). -/
def Cc.atRelease (st : Straps) : Cc where
  formState := .start
  number := 0
  tStart := some Config.tSTART
  rollRepeat := none
  tGather := none
  tallyRepeat := none
  tTally := none
  candidates := [ownRecordOf st .openEnd .openEnd .noClaim]
  oversize := false
  earlyTallies := []
  agreement := []
  ordering := none
  abandoned := []
  candidateOrder := none
  failedCount := 0
  ownCab := .noClaim
  table :=
    { entries :=
        [{ member := Member.ofRecord (ownRecordOf st .openEnd .openEnd .noClaim) .a .noCab,
           silent := false, lastHeard := 0 }]
      stale := true
      partialFlag := false }

/-! ### Line Access Unit (chapter 4) -/

/-- The transmitter states (04 section 4.4), with when SEND began and when JAM and BACKOFF end. -/
inductive TxState where
  | ready
  | send (startedAt : Time)
  | jam (endsAt : Time)
  | backoff (endsAt : Time)
  | rewait
deriving DecidableEq, Repr

/-- What a line reset did to a current frame that is on the line (R75 steps 4 and 5). -/
inductive CutMark where
  | uncut
  | whileSending
  | whileJamming
deriving DecidableEq, Repr

/-- The current frame with its collision count (R58, R69). -/
structure CurrentFrame where
  frame : Frame
  collisions : Nat
  late : Bool
  cut : CutMark
deriving DecidableEq, Repr

/-- The Line Access Unit. -/
structure Lau where
  reformSlot : Option Frame
  holdSlot : Option Frame
  safety : List Frame
  consist : List Frame
  supply : List Frame
  tx : TxState
  current : Option CurrentFrame
  idleFrom : Time
  draws : Nat
deriving DecidableEq, Repr

/-- R76. -/
def Lau.atRelease : Lau where
  reformSlot := none
  holdSlot := none
  safety := []
  consist := []
  supply := []
  tx := .ready
  current := none
  idleFrom := 0
  draws := 0

/-! ### Receive Path and Line Hold Unit (chapter 5) -/

/-- The Receive Path. -/
structure Rxp where
  receiving : Bool
  queue : List Frame
deriving DecidableEq, Repr

/-- R94. -/
def Rxp.atRelease : Rxp where
  receiving := false
  queue := []

/-- A hold list entry (R91); its remaining time is what is left until `expiresAt`. -/
structure HoldEntry where
  peer : NodeId
  expiresAt : Time
deriving DecidableEq, Repr

/-- The Line Hold Unit. -/
structure Lhu where
  congested : Bool
  ownHold : Option Time
  resend : Option Time
  holds : List HoldEntry
deriving DecidableEq, Repr

/-- R94. -/
def Lhu.atRelease : Lhu where
  congested := false
  ownHold := none
  resend := none
  holds := []

/-! ### Output Timer Bank (chapter 6) -/

/-- Channel modes (R95). -/
inductive ChannelMode where
  | off
  | sequence
  | pwm
deriving DecidableEq, Repr

/-- A channel record (R95). The counter held `base` at the time `since` and has counted one each
millisecond from there while the channel is not OFF; in OFF it is 0 (log entry 13). -/
structure Channel where
  mode : ChannelMode
  base : Nat
  since : Time
  compareA : Nat
  compareB : Nat
  pendingA : Option Nat
  output : Bool
  offset : Nat
  pendingOffset : Option Nat
deriving DecidableEq, Repr

/-- R106, for a channel with a stagger offset. -/
def Channel.atRelease (offset : Nat) : Channel where
  mode := .off
  base := 0
  since := 0
  compareA := 0
  compareB := 0
  pendingA := none
  output := false
  offset := offset
  pendingOffset := none

/-- The Output Timer Bank: twelve channels. -/
structure Otb where
  channels : List Channel
deriving DecidableEq, Repr

/-- R106: eight leaf channels, and heater channels k with offset k × 500 ms. -/
def Otb.atRelease : Otb where
  channels :=
    List.replicate Config.heaterBase (Channel.atRelease 0)
      ++ (List.range 4).map (fun k => Channel.atRelease (k * Config.staggerStepMs))

/-! ### Door Leaf Controller (chapter 7) -/

/-- Leaf states (R107). -/
inductive LeafState where
  | locked
  | released
  | closingWarn
  | closingDrive
  | reopen
  | fault
  | isolated
deriving DecidableEq, Repr

/-- Fault reasons (R107). -/
inductive FaultReason where
  | lockTimeout
  | obstructed
  | unlocked
deriving DecidableEq, Repr

/-- A leaf record (R107), with its input filters (R108). `watch` is the CL watch: the time at which it
started, `none` while it is stopped. -/
structure Leaf where
  index : Nat
  state : LeafState
  reason : Option FaultReason
  obstructions : Nat
  watch : Option Time
  cl : Bool
  ob : Bool
  clFilter : Option Time
  obFilter : Option Time
deriving DecidableEq, Repr

/-- R127, with the filtered levels set from the raw levels at release (R108). -/
def Leaf.atRelease (index : Nat) (cl ob : Bool) : Leaf where
  index := index
  state := if cl then .locked else .fault
  reason := if cl then none else some .unlocked
  obstructions := 0
  watch := none
  cl := cl
  ob := ob
  clFilter := none
  obFilter := none

/-- The Door Leaf Controller: one record for each present leaf. -/
structure Dlc where
  leaves : List Leaf
deriving DecidableEq, Repr

/-- The indices of the present leaves (R107): n − 1 for side-1 leaf n, n + 3 for side-2 leaf n. -/
def Straps.leafIndices (st : Straps) : List Nat :=
  List.range st.leavesS1 ++ (List.range st.leavesS2).map (· + 4)

/-- R107, R127. -/
def Dlc.atRelease (st : Straps) (pins : Pins) : Dlc where
  leaves := st.leafIndices.map (fun i => Leaf.atRelease i (pins.cl.getD i false) (pins.ob.getD i false))

/-- The physical side of a leaf index (R107). -/
def leafSide (index : Nat) : Side := if index < 4 then .one else .two

/-- A side summary (R125). -/
structure SideSummary where
  secure : Bool
  faults : Nat
  isOpen : Bool
deriving DecidableEq, Repr

/-- A leaf state that keeps its side secure (R125). -/
def LeafState.isSecure : LeafState → Bool
  | .locked | .isolated => true
  | .released | .closingWarn | .closingDrive | .reopen | .fault => false

/-- A leaf state that makes its side open (R125). -/
def LeafState.isOpen : LeafState → Bool
  | .released | .closingWarn | .closingDrive | .reopen => true
  | .locked | .fault | .isolated => false

/-- The summary of one physical side, derived from its present leaves (R125). -/
def sideSummary (leaves : List Leaf) (side : Side) : SideSummary :=
  let here := leaves.filter (fun l => leafSide l.index = side)
  { secure := here.all (fun l => l.state.isSecure)
    faults := (here.filter (fun l => l.state = .fault)).length
    isOpen := here.any (fun l => l.state.isOpen) }

/-! ### Door Command Unit (chapter 8) -/

/-- The action of a door command (R110). -/
inductive DoorAction where
  | release
  | close
deriving DecidableEq, Repr

/-- The side field of a door command (08 section 8.1). -/
inductive DoorSide where
  | left
  | right
  | both
deriving DecidableEq, Repr

/-- The payload fields of a DOORCMD (08 section 8.1). -/
structure DoorCmd where
  seq : Byte
  action : DoorAction
  side : DoorSide
  rangeFrom : Nat
  rangeTo : Nat
  issuer : Byte
deriving DecidableEq, Repr

/-- The phase of a repeat schedule entry (R132); SPACING holds when tDREP runs out. -/
inductive IssuePhase where
  | inStore
  | spacing (until_ : Time)
deriving DecidableEq, Repr

/-- A repeat schedule entry (R132). -/
structure Issue where
  frame : Frame
  action : DoorAction
  seq : Byte
  ended : Nat
  phase : IssuePhase
deriving DecidableEq, Repr

/-- An issuer de-duplication entry (R134): sequence numbers oldest first. -/
structure DedupEntry where
  issuer : NodeId
  seqs : List Byte
  lastUse : Time
deriving DecidableEq, Repr

/-- A door status table entry that is not absent (R139). -/
structure DoorStatus where
  position : Nat
  left : Bool
  right : Bool
  receivedAt : Time
  fresh : Bool
deriving DecidableEq, Repr

/-- The Door Command Unit. The de-duplication entries stand in the order of their last use. -/
structure Dcu where
  issueSeq : Byte
  schedule : List Issue
  dedup : List DedupEntry
  side1 : SideSummary
  side2 : SideSummary
  doorStatus : List DoorStatus
  doorstatTimer : Option Time
  /-- An expiry of the DOORSTAT timer that has come and that another submission was taken before (R138). -/
  doorstatOwed : Option Time
  secureOn : Bool
deriving DecidableEq, Repr

/-- R146. -/
def Dcu.atRelease (dlc : Dlc) : Dcu where
  issueSeq := 0
  schedule := []
  dedup := []
  side1 := sideSummary dlc.leaves .one
  side2 := sideSummary dlc.leaves .two
  doorStatus := []
  doorstatTimer := none
  doorstatOwed := none
  secureOn := false

/-! ### Heating Share Unit (chapter 9) -/

/-- The percentages of a demand record (R147); its kW values are `Demand.frostKw` and `Demand.comfortKw`. -/
structure Demand where
  frost : Nat
  comfort : Nat
deriving DecidableEq, Repr

/-- A bid table entry that is not absent (R152). -/
structure Bid where
  position : Nat
  frost : Nat
  comfort : Nat
  offer : Nat
  receivedAt : Time
  fresh : Bool
deriving DecidableEq, Repr

/-- The three input values of one position (R154). -/
structure AllocInput where
  frost : Nat
  comfort : Nat
  offer : Nat
deriving DecidableEq, Repr

/-- An allocation computation in progress (R154 to R157): its inputs by position from 1, the own position,
whether settle had ended when it started, whether it was abandoned (R166), and the moment by which it ends. -/
structure Allocation where
  inputs : List AllocInput
  ownPosition : Nat
  afterSettle : Bool
  abandoned : Bool
  endsBy : Time
deriving DecidableEq, Repr

/-- A grant in kW (R155). -/
structure Grant where
  frost : Nat
  comfort : Nat
deriving DecidableEq, Repr

/-- Grant sources (09 section 9.7). -/
inductive GrantSource where
  | computed
  | hold
  | limit
deriving DecidableEq, Repr

/-- The Heating Share Unit. -/
structure Hsu where
  demands : List Demand
  offer : Nat
  bids : List Bid
  bidTimer : Option Time
  /-- An expiry of the bid timer that has come and that another submission was taken before (R150). -/
  bidOwed : Option Time
  alloc : Option Allocation
  rerunPending : Bool
  settle : Option Time
  source : GrantSource
  frozen : Grant
  applied : Grant
  holdOver : Option Time
  targets : List Nat
  lastBidSent : Option Time
deriving DecidableEq, Repr

/-- R168. -/
def Hsu.atRelease (st : Straps) : Hsu where
  demands := List.replicate st.heatCh { frost := 0, comfort := 0 }
  offer := 0
  bids := []
  bidTimer := none
  bidOwed := none
  alloc := none
  rerunPending := false
  settle := none
  source := .limit
  frozen := { frost := 0, comfort := 0 }
  applied := { frost := 0, comfort := 0 }
  holdOver := none
  targets := List.replicate st.heatCh 0
  lastBidSent := none

/-! ### Local Port (chapter 10) -/

/-- FORMATION_LEFT's reason: a reason code, or ADOPTED (R23). -/
inductive LeftReason where
  | reformed (r : ReformReason)
  | adopted
deriving DecidableEq, Repr

/-- DOOR_REFUSED's reason (R135). -/
inductive RefusalReason where
  | notFormed
  | notCommandingCab
deriving DecidableEq, Repr

/-- The notices (10 section 10.5). -/
inductive Notice where
  | formed (number : FormationNumber) (n ownPosition : Nat) (partialFlag : Bool)
  | formationLeft (reason : LeftReason)
  | soloEntered
  | candidateOverflow
  | cabGranted
  | cabDenied
  | cabLost
  | memberSilent (position : Nat)
  | memberHeard (position : Nat)
  | doorsSecure (on : Bool)
  | leafFault (leaf : Nat) (reason : FaultReason)
  | leafRecovered (leaf : Nat)
  | doorRefused (issuer : Byte) (reason : RefusalReason)
  | issueVoid (seq : Byte)
  | frameAbandoned (kind : FrameKind)
  | heatGrant (total : Nat)
  | counterAlert (index : Nat)
  | noticesLost
deriving DecidableEq, Repr

/-- The port's transaction states (11 section 11.1). ARGS holds the bytes clocked in, the kind byte first. -/
inductive PortPhase where
  | idle
  | kind
  | args (clocked : List Byte)
  | response
deriving DecidableEq, Repr

/-- The Local Port. -/
structure Port where
  phase : PortPhase
  response : List Byte
  ready : Bool
  respBy : Option Time
  notices : List Notice
  lostMarker : Bool
  counters : List (BitVec 16)
deriving DecidableEq, Repr

/-- R183 and R184. -/
def Port.atRelease : Port where
  phase := .idle
  response := []
  ready := false
  respBy := none
  notices := []
  lostMarker := false
  counters := List.replicate 14 0

end Sys2Proof.Machine
end

