-- ==== Sys2Proof/Machine/State.lean ====
section
/-! DEFINITION. The state of the node, its outcomes' reasons, and the state after reset. -/

namespace Sys2Proof.Machine

/-- The node. INVENTORY.md lists every field of every block with its rule and its reset value. -/
structure State where
  /-- Input pin levels. -/
  pins : Pins
  /-- The strap record and the node serial (R175). -/
  straps : Straps
  /-- External reset is asserted (R176). -/
  inReset : Bool
  /-- Bit times since external reset release (log entry 2). -/
  now : Time
  endA : EndLink
  endB : EndLink
  cc : Cc
  lau : Lau
  rxp : Rxp
  lhu : Lhu
  otb : Otb
  dlc : Dlc
  dcu : Dcu
  hsu : Hsu
  port : Port
  /-- The commands that wait, first in first out. -/
  pending : List Instr
deriving DecidableEq, Repr

/-- Why a step could stop with a fault. Nothing in the spec stops the block, so there is no reason:
the type is empty and no command faults. Safe: no behaviour is cut off. -/
inductive Fault where
deriving DecidableEq, Repr

/-- Why a command has no meaning. -/
inductive Refusal where
  /-- Raised by `exec` for a command whose meaning is not written yet. Safe: it only stops.
  No arm of `exec` raises it: every command of the table has its meaning. -/
  | notModelled (mnemonic : String)
deriving DecidableEq, Repr

/-- The strap levels, serial and pin levels of `State.reset` (DESIGN CHOICE, log entry 5). -/
def State.resetStraps : StrapPins where
  coachType := .trailer
  cabEnd := .a
  leavesS1 := 0
  leavesS2 := 0
  sideRef := .one
  heatCh := 0
  heatKw := 0
  rxPolicy := .keepOld
  outPol := .activeHigh
  serial := 1

/-- Every input pin at its inactive level (DESIGN CHOICE, log entry 5). -/
def State.resetPins : Pins where
  contactA := false
  contactB := false
  cl := List.replicate 8 false
  ob := List.replicate 8 false
  csLow := false
  peerCarrier := false

/-- The node right after external reset release (R176), with nothing waiting. -/
def State.reset : State where
  pins := State.resetPins
  straps := Straps.latch State.resetStraps
  inReset := false
  now := 0
  endA := EndLink.atRelease State.resetPins.contactA
  endB := EndLink.atRelease State.resetPins.contactB
  cc := Cc.atRelease (Straps.latch State.resetStraps)
  lau := Lau.atRelease
  rxp := Rxp.atRelease
  lhu := Lhu.atRelease
  otb := Otb.atRelease
  dlc := Dlc.atRelease (Straps.latch State.resetStraps) State.resetPins
  dcu := Dcu.atRelease (Dlc.atRelease (Straps.latch State.resetStraps) State.resetPins)
  hsu := Hsu.atRelease (Straps.latch State.resetStraps)
  port := Port.atRelease
  pending := []

end Sys2Proof.Machine
end

