-- ==== Sys2Proof/Machine/Operands.lean ====
section
/-! DEFINITION. The byte layouts of chapter 11: codes, frames, payloads, beacons, the digest string, and the
argument and result codes of the local port. Each decoder answers `none` where R78, R184 or R189 finds no valid
encoding. -/

namespace Sys2Proof.Machine

/-! ### Bytes and checks -/

/-- Byte `i` of a number, counted from its least significant byte. -/
def byteAt (v i : Nat) : Byte := BitVec.ofNat 8 (v >>> (8 * i))

/-- Two bytes, most significant first (00_scope.md section 6). -/
def bytes16 (v : Nat) : List Byte := [byteAt v 1, byteAt v 0]

/-- Four bytes, most significant first (00_scope.md section 6). -/
def bytes32 (v : Nat) : List Byte := [byteAt v 3, byteAt v 2, byteAt v 1, byteAt v 0]

/-- The number that bytes spell, most significant first. -/
def numberOf (bs : List Byte) : Nat := bs.foldl (fun acc b => acc * 256 + b.toNat) 0

/-- One bit of a CRC register of width `w` with generator `g`: shift left, and add the generator when a
one left the register. -/
def crcShift {w : Nat} (g r : BitVec w) : BitVec w :=
  if r.msb then (r <<< 1) ^^^ g else r <<< 1

/-- One byte, most significant bit first, into a CRC register of at least eight bits. -/
def crcByte {w : Nat} (g r : BitVec w) (b : Byte) : BitVec w :=
  let r := r ^^^ (b.setWidth w <<< (w - 8))
  crcShift g (crcShift g (crcShift g (crcShift g
    (crcShift g (crcShift g (crcShift g (crcShift g r)))))))

/-- CRC-8 of the end beacon (R190). -/
def crc8 (bs : List Byte) : BitVec 8 := bs.foldl (crcByte 0x07#8) 0x00#8

/-- CRC-16 of a frame (R187). -/
def crc16 (bs : List Byte) : BitVec 16 := bs.foldl (crcByte 0x1021#16) 0xFFFF#16

/-- CRC-32 of the digest string (R191), with its final inversion. -/
def crc32 (bs : List Byte) : BitVec 32 := ~~~ (bs.foldl (crcByte 0x04C11DB7#32) 0xFFFFFFFF#32)

/-! ### Small codes (R184, R188, R189) -/

/-- End codes: A 0x41, B 0x42 (R188, R190). -/
def endCode : CoachEnd → Byte
  | .a => 0x41
  | .b => 0x42

def endOfCode (b : Byte) : Option CoachEnd :=
  if b = 0x41 then some .a else if b = 0x42 then some .b else none

/-- Coach type codes (R188). -/
def coachTypeCode : CoachType → Byte
  | .trailer => 0x00
  | .cab => 0x01
  | .supply => 0x02
  | .cabSupply => 0x03

def coachTypeOfCode (b : Byte) : Option CoachType :=
  if b = 0x00 then some .trailer else if b = 0x01 then some .cab
  else if b = 0x02 then some .supply else if b = 0x03 then some .cabSupply else none

/-- Cab codes of an own cab state (R189). -/
def ownCabCode : OwnCab → Byte
  | .noClaim => 0x00
  | .requested => 0x01
  | .active => 0x02

/-- DENIED (0x03) is no cab state of a record (R189). -/
def ownCabOfCode (b : Byte) : Option OwnCab :=
  if b = 0x00 then some .noClaim else if b = 0x01 then some .requested
  else if b = 0x02 then some .active else none

/-- Cab codes of a cab result (R189, R191). -/
def cabResultCode : CabResult → Byte
  | .noCab => 0x00
  | .active => 0x02
  | .denied => 0x03

/-- Orientation codes: FWD_A 0x01, FWD_B 0x02 (R185, R191). An orientation is named by the end that faces
the front. -/
def orientationCode : CoachEnd → Byte
  | .a => 0x01
  | .b => 0x02

/-- Reason codes of a REFORM (R188). -/
def reasonCode : ReformReason → Byte
  | .coupling => 0x01
  | .stranger => 0x02
  | .rollChanged => 0x03
  | .mismatch => 0x04
  | .timeout => 0x05
  | .cab => 0x06
  | .request => 0x07
  | .start => 0x08

def reasonOfCode (b : Byte) : Option ReformReason :=
  if b = 0x01 then some .coupling else if b = 0x02 then some .stranger
  else if b = 0x03 then some .rollChanged else if b = 0x04 then some .mismatch
  else if b = 0x05 then some .timeout else if b = 0x06 then some .cab
  else if b = 0x07 then some .request else if b = 0x08 then some .start else none

/-- A flag byte, 0x00 or 0x01 (R188). -/
def flagCode (f : Bool) : Byte := if f then 0x01 else 0x00

def flagOfCode (b : Byte) : Option Bool :=
  if b = 0x00 then some false else if b = 0x01 then some true else none

/-- Side numbers: 1 and 2 (R185). -/
def sideCode : Side → Byte
  | .one => 0x01
  | .two => 0x02

/-! ### Frame kinds (R187) -/

def FrameKind.code : FrameKind → Byte
  | .reform => 0x11
  | .roll => 0x12
  | .tally => 0x13
  | .doorcmd => 0x21
  | .doorstat => 0x22
  | .heatbid => 0x31
  | .hold => 0x41

def FrameKind.ofCode (b : Byte) : Option FrameKind :=
  if b = 0x11 then some .reform else if b = 0x12 then some .roll
  else if b = 0x13 then some .tally else if b = 0x21 then some .doorcmd
  else if b = 0x22 then some .doorstat else if b = 0x31 then some .heatbid
  else if b = 0x41 then some .hold else none

/-- The fixed payload length of a kind (R187). -/
def FrameKind.payloadLength : FrameKind → Nat
  | .reform => 1
  | .roll => 20
  | .tally => 6
  | .doorcmd => 6
  | .doorstat => 3
  | .heatbid => 4
  | .hold => 2

/-- Frames of the SAFETY class at a receiver (R81). HOLD frames are not queued. -/
def FrameKind.isSafety : FrameKind → Bool
  | .reform | .doorcmd | .doorstat => true
  | .roll | .tally | .heatbid | .hold => false

/-- Kinds with the short gap (R66), whose abandonment is posted (R71, R72). -/
def FrameKind.isUrgent : FrameKind → Bool
  | .reform | .hold | .doorcmd | .doorstat => true
  | .roll | .tally | .heatbid => false

/-! ### Frames on the line (R186, R187) -/

/-- Header, payload and padding of a frame: every byte the CRC-16 covers. -/
def Frame.body (f : Frame) : List Byte :=
  [f.kind.code] ++ bytes32 f.sender.toNat ++ bytes16 f.number.toNat ++ [f.position]
    ++ [BitVec.ofNat 8 f.payload.length] ++ f.payload ++ List.replicate (5 - f.payload.length) 0x00

/-- The bytes of a frame on the line. -/
def Frame.encode (f : Frame) : List Byte := f.body ++ bytes16 (crc16 f.body).toNat

/-- How long a frame occupies the line (R68): 11 + L bytes, and at least 16, of 8 bit times. -/
def Frame.bitTimes (f : Frame) : Nat := 8 * max 16 (11 + f.payload.length)

/-- The arrival checks of R78, and the frame of a reception that passes them all. -/
def checkReception (own : NodeId) (r : Reception) : Option Frame :=
  let n := r.bytes.length
  if r.extraBits ≠ 0 ∨ n < 16 ∨ 59 < n then none
  else if bytes16 (crc16 (r.bytes.take (n - 2))).toNat ≠ r.bytes.drop (n - 2) then none
  else
    match FrameKind.ofCode (r.bytes.getD 0 0) with
    | none => none
    | some kind =>
      let len := (r.bytes.getD 8 0).toNat
      let sender := BitVec.ofNat 32 (numberOf ((r.bytes.drop 1).take 4))
      let position := r.bytes.getD 7 0
      if len ≠ kind.payloadLength ∨ 48 < len then none
      else if n ≠ max 16 (11 + len) then none
      else if 32 < position.toNat then none
      else if sender = 0 ∨ sender = own then none
      else
        some
          { kind := kind
            sender := sender
            number := BitVec.ofNat 16 (numberOf ((r.bytes.drop 5).take 2))
            position := position
            payload := (r.bytes.drop 9).take len }

/-! ### Payloads (R188, R189) -/

/-- The three fields of an end status: status code, neighbour ID, neighbour end (R188). -/
def endStatusBytes : EndStatus → List Byte
  | .openEnd => [0x00] ++ bytes32 0 ++ [0x00]
  | .unpaired => [0x01] ++ bytes32 0 ++ [0x00]
  | .paired id e => [0x02] ++ bytes32 id.toNat ++ [endCode e]

/-- The neighbour bytes of an OPEN or UNPAIRED status are not read (R189). -/
def endStatusOf (bs : List Byte) : Option EndStatus :=
  let code := bs.getD 0 0
  if code = 0x00 then some .openEnd
  else if code = 0x01 then some .unpaired
  else if code = 0x02 then
    let id : NodeId := BitVec.ofNat 32 (numberOf ((bs.drop 1).take 4))
    match endOfCode (bs.getD 5 0) with
    | some e => if id = 0 then none else some (.paired id e)
    | none => none
  else none

/-- The payload of a ROLL (R188). -/
def rollPayload (r : RollRecord) : List Byte :=
  endStatusBytes r.endA ++ endStatusBytes r.endB
    ++ [coachTypeCode r.coachType, endCode r.cabEnd, ownCabCode r.cab,
        BitVec.ofNat 8 r.leavesS1, BitVec.ofNat 8 r.leavesS2, BitVec.ofNat 8 r.heaters,
        BitVec.ofNat 8 r.ratedHeat, flagCode r.supply]

/-- The record of a ROLL's payload; its node ID is the header's sender (R188). -/
def rollOf (sender : NodeId) (p : List Byte) : Option RollRecord := do
  let endA ← endStatusOf (p.take 6)
  let endB ← endStatusOf ((p.drop 6).take 6)
  let coachType ← coachTypeOfCode (p.getD 12 0)
  let cabEnd ← endOfCode (p.getD 13 0)
  let cab ← ownCabOfCode (p.getD 14 0)
  let supply ← flagOfCode (p.getD 19 0)
  let leavesS1 := (p.getD 15 0).toNat
  let leavesS2 := (p.getD 16 0).toNat
  let heaters := (p.getD 17 0).toNat
  let ratedHeat := (p.getD 18 0).toNat
  if 4 < leavesS1 ∨ 4 < leavesS2 ∨ 4 < heaters ∨ 128 < ratedHeat then none
  else
    some
      { id := sender, endA := endA, endB := endB, coachType := coachType, cabEnd := cabEnd, cab := cab
        leavesS1 := leavesS1, leavesS2 := leavesS2, heaters := heaters, ratedHeat := ratedHeat
        supply := supply }

/-- The payload of a TALLY (R188). -/
def tallyPayload (t : Tally) : List Byte :=
  [BitVec.ofNat 8 t.n] ++ bytes32 t.digest.toNat ++ [flagCode t.partialFlag]

def tallyOf (p : List Byte) : Option Tally := do
  let flag ← flagOfCode (p.getD 5 0)
  let n := (p.getD 0 0).toNat
  if n = 0 ∨ 32 < n then none
  else some { n := n, digest := BitVec.ofNat 32 (numberOf ((p.drop 1).take 4)), partialFlag := flag }

/-- Door action codes (R184, R188). -/
def doorActionCode : DoorAction → Byte
  | .release => 0x01
  | .close => 0x02

def doorActionOf (b : Byte) : Option DoorAction :=
  if b = 0x01 then some .release else if b = 0x02 then some .close else none

/-- Door side codes (R184, R188). -/
def doorSideCode : DoorSide → Byte
  | .left => 0x01
  | .right => 0x02
  | .both => 0x03

def doorSideOf (b : Byte) : Option DoorSide :=
  if b = 0x01 then some .left else if b = 0x02 then some .right
  else if b = 0x03 then some .both else none

/-- The payload of a DOORCMD (R188). -/
def doorCmdPayload (c : DoorCmd) : List Byte :=
  [c.seq, doorActionCode c.action, doorSideCode c.side, BitVec.ofNat 8 c.rangeFrom,
   BitVec.ofNat 8 c.rangeTo, c.issuer]

/-- The range bytes are plain numbers (R189). -/
def doorCmdOf (p : List Byte) : Option DoorCmd := do
  let action ← doorActionOf (p.getD 1 0)
  let side ← doorSideOf (p.getD 2 0)
  some
    { seq := p.getD 0 0, action := action, side := side, rangeFrom := (p.getD 3 0).toNat
      rangeTo := (p.getD 4 0).toNat, issuer := p.getD 5 0 }

/-- The payload of a DOORSTAT: position, left secure, right secure (R188). -/
def doorstatPayload (position : Nat) (left right : Bool) : List Byte :=
  [BitVec.ofNat 8 position, flagCode left, flagCode right]

def doorstatOf (p : List Byte) : Option (Byte × Bool × Bool) := do
  let left ← flagOfCode (p.getD 1 0)
  let right ← flagOfCode (p.getD 2 0)
  some (p.getD 0 0, left, right)

/-- The payload of a HEATBID: frost, comfort, offer (R188). -/
def heatbidPayload (frost comfort offer : Nat) : List Byte :=
  [BitVec.ofNat 8 frost, BitVec.ofNat 8 comfort] ++ bytes16 offer

def heatbidOf (p : List Byte) : AllocInput :=
  { frost := (p.getD 0 0).toNat, comfort := (p.getD 1 0).toNat, offer := numberOf ((p.drop 2).take 2) }

/-- The payload of a HOLD: its hold time in ms (R188). -/
def holdPayload (timeMs : Nat) : List Byte := bytes16 timeMs

def holdOf (p : List Byte) : Nat := numberOf (p.take 2)

/-- A DOORCMD whose action byte is CLOSE, whatever its side byte holds: the CLOSE of the take (R86). -/
def Frame.hasCloseAction (f : Frame) : Bool :=
  f.kind = .doorcmd && doorActionOf (f.payload.getD 1 0) = some .close

/-- A DOORCMD with action CLOSE, whose action and side hold encodings: the CLOSE of the arrival check (R80,
R189). The node's own DOORCMDs hold encodings (R67, R129). -/
def Frame.isClose (f : Frame) : Bool :=
  f.kind = .doorcmd && (match doorCmdOf f.payload with | some c => c.action = .close | none => false)

/-- The reason code a REFORM carries, if it holds an encoding (R188, R189). -/
def Frame.reformReason (f : Frame) : Option ReformReason :=
  if f.kind = .reform then reasonOfCode (f.payload.getD 0 0) else none

/-! ### End beacon (R190) -/

/-- Bytes 0 to 4 of an end beacon. -/
def beaconBody (id : NodeId) (senderEnd : Byte) : List Byte := bytes32 id.toNat ++ [senderEnd]

/-- The six bytes of the beacon that a node sends through one of its ends. -/
def beaconOf (id : NodeId) (e : CoachEnd) : List Byte :=
  beaconBody id (endCode e) ++ [crc8 (beaconBody id (endCode e))]

/-- One bit time of a character on a transmit conductor (R1). Its line level belongs to the external parts. -/
inductive CharBit where
  | start
  | data (bit : Bool)
  | stop
deriving DecidableEq, Repr

/-- The data bits of a byte in the order in which they are sent: least significant first (R1, R190). -/
def dataBits (b : Byte) : List Bool := (List.range 8).map (fun i => b.getLsbD i)

/-- The ten bits of a character in the order in which they are sent (R1). -/
def charBits (b : Byte) : List CharBit := .start :: (dataBits b).map .data ++ [.stop]

/-- The byte that data bits spell, least significant first (R1, R190). -/
def byteOfBits (bits : List Bool) : Byte :=
  BitVec.ofNat 8 (bits.foldr (fun bit acc => (if bit then 1 else 0) + 2 * acc) 0)

/-- The byte of a character received. -/
def charByte (c : LineChar) : Byte := byteOfBits c.data

/-- The fields of the six bytes of a complete beacon (R190). -/
def beaconFields (bs : List Byte) : BeaconBytes where
  senderId := BitVec.ofNat 32 (numberOf (bs.take 4))
  senderEnd := bs.getD 4 0
  crc := bs.getD 5 0

/-- The checks of R6; the neighbour that a valid beacon names. -/
def checkBeacon (own : NodeId) (b : BeaconBytes) : Option Neighbour :=
  if crc8 (beaconBody b.senderId b.senderEnd) ≠ b.crc then none
  else if b.senderId = 0 ∨ b.senderId = own then none
  else
    match endOfCode b.senderEnd with
    | some e => some { id := b.senderId, coachEnd := e }
    | none => none

/-! ### Digest (R46, R191) -/

/-- The digest string: six bytes for each entry in order, then the PARTIAL byte. -/
def digestString (ms : List Member) (partialFlag : Bool) : List Byte :=
  ms.flatMap (fun m => bytes32 m.id.toNat ++ [orientationCode m.orientation, cabResultCode m.cab])
    ++ [flagCode partialFlag]

def digestOf (ms : List Member) (partialFlag : Bool) : BitVec 32 := crc32 (digestString ms partialFlag)

/-! ### Local port result codes (R185) -/

/-- The result codes (10 section 10.2). -/
inductive Result where
  | ok
  | unknown
  | badValue
  | badRange
  | badIndex
  | notCabType
  | notFormed
  | notActiveCab
  | queueFull
  | noLeaf
  | noChannel
  | notSupplyType
  | alreadyClaimed
  | notClaimed
deriving DecidableEq, Repr

def Result.code : Result → Byte
  | .ok => 0x00
  | .unknown => 0x01
  | .badValue => 0x02
  | .badRange => 0x03
  | .badIndex => 0x04
  | .notCabType => 0x05
  | .notFormed => 0x06
  | .notActiveCab => 0x07
  | .queueFull => 0x08
  | .noLeaf => 0x09
  | .noChannel => 0x0A
  | .notSupplyType => 0x0B
  | .alreadyClaimed => 0x0C
  | .notClaimed => 0x0D

/-- Claim/release codes of CAB (R184): `true` is a claim. -/
def claimOf (b : Byte) : Option Bool :=
  if b = 0x01 then some true else if b = 0x02 then some false else none

/-- On/off codes of ISOLATE (R184). -/
def onOffOf (b : Byte) : Option Bool :=
  if b = 0x00 then some false else if b = 0x01 then some true else none

/-- The requests of the local port (R184). -/
inductive Request where
  | status
  | consistRead
  | noticeTake
  | doorIssue
  | isolate
  | heatDemand
  | supplyOffer
  | cab
  | reform
  | counterRead
  | counterDecrement
  | lineReset
  | straps
deriving DecidableEq, Repr

/-- The kind byte of a request (R184). -/
def Request.code : Request → Byte
  | .status => 0x01
  | .consistRead => 0x02
  | .noticeTake => 0x03
  | .doorIssue => 0x04
  | .isolate => 0x05
  | .heatDemand => 0x06
  | .supplyOffer => 0x07
  | .cab => 0x08
  | .reform => 0x09
  | .counterRead => 0x0A
  | .counterDecrement => 0x0B
  | .lineReset => 0x0C
  | .straps => 0x0D

/-- The number of argument bytes of a request (R184). -/
def Request.argBytes : Request → Nat
  | .status | .noticeTake | .reform | .lineReset | .straps => 0
  | .cab | .counterRead => 1
  | .consistRead | .isolate | .supplyOffer => 2
  | .heatDemand | .counterDecrement => 3
  | .doorIssue => 4

/-- The request that a kind byte encodes (R184). Every other kind byte is unknown. -/
def requestOf (b : Byte) : Option Request :=
  [Request.status, .consistRead, .noticeTake, .doorIssue, .isolate, .heatDemand, .supplyOffer, .cab, .reform,
    .counterRead, .counterDecrement, .lineReset, .straps].find? (fun r => r.code = b)

/-- The bytes of a request as the controller clocks them in: the kind byte, then its argument bytes (R184).
UNKNOWN_REQUEST is its kind byte alone (R169). No other command is clocked in. -/
def requestBytes : Instr → List Byte
  | .status => [Request.status.code]
  | .consistRead start count => [Request.consistRead.code, start, count]
  | .noticeTake => [Request.noticeTake.code]
  | .doorIssueRelease action side rangeFrom rangeTo | .doorIssueClose action side rangeFrom rangeTo =>
    [Request.doorIssue.code, action, side, rangeFrom, rangeTo]
  | .isolateOn leaf onOff | .isolateOff leaf onOff => [Request.isolate.code, leaf, onOff]
  | .heatDemand channel frost comfort => [Request.heatDemand.code, channel, frost, comfort]
  | .supplyOffer offer => Request.supplyOffer.code :: bytes16 offer.toNat
  | .cabClaim code | .cabRelease code => [Request.cab.code, code]
  | .reform => [Request.reform.code]
  | .counterRead index => [Request.counterRead.code, index]
  | .counterDecrement index amount => [Request.counterDecrement.code, index] ++ bytes16 amount.toNat
  | .lineReset => [Request.lineReset.code]
  | .straps => [Request.straps.code]
  | .unknownRequest kind => [kind]
  | _ => []

/-- The wait byte and the filler byte (R184). -/
def waitByte : Byte := 0xFF
def fillerByte : Byte := 0x00

/-- Formation state codes (R185). -/
def formStateCode : FormState → Byte
  | .start => 0x00
  | .gather => 0x01
  | .tally => 0x02
  | .formed => 0x03
  | .solo => 0x04

/-- A byte whose bits, from bit 0, are given flags (R185). -/
def flagsByte (fs : List Bool) : Byte :=
  BitVec.ofNat 8 (fs.foldr (fun f acc => (if f then 1 else 0) + 2 * acc) 0)

/-- A side summary byte: bit 0 secure, bit 1 open, bits 2 to 4 fault count (R185). -/
def summaryByte (s : SideSummary) : Byte :=
  BitVec.ofNat 8 ((if s.secure then 1 else 0) + (if s.isOpen then 2 else 0) + 4 * s.faults)

/-- FORMATION_LEFT reason codes: a reason code, or ADOPTED 0x09 (R189). -/
def leftReasonCode : LeftReason → Byte
  | .reformed r => reasonCode r
  | .adopted => 0x09

/-- Fault reason codes (R185). -/
def faultReasonCode : FaultReason → Byte
  | .lockTimeout => 0x01
  | .obstructed => 0x02
  | .unlocked => 0x03

/-- DOOR_REFUSED reason codes (R185). -/
def refusalReasonCode : RefusalReason → Byte
  | .notFormed => 0x01
  | .notCommandingCab => 0x02

/-- A notice's kind byte and the field bytes its kind uses (R185). -/
def Notice.fields : Notice → List Byte
  | .formed num n p flag =>
      [0x01] ++ bytes16 num.toNat ++ [BitVec.ofNat 8 n, BitVec.ofNat 8 p, flagCode flag]
  | .formationLeft r => [0x02, leftReasonCode r]
  | .soloEntered => [0x03]
  | .candidateOverflow => [0x04]
  | .cabGranted => [0x05]
  | .cabDenied => [0x06]
  | .cabLost => [0x07]
  | .memberSilent p => [0x08, BitVec.ofNat 8 p]
  | .memberHeard p => [0x09, BitVec.ofNat 8 p]
  | .doorsSecure on => [0x0A, flagCode on]
  | .leafFault i r => [0x0B, BitVec.ofNat 8 i, faultReasonCode r]
  | .leafRecovered i => [0x0C, BitVec.ofNat 8 i]
  | .doorRefused i r => [0x0D, i, refusalReasonCode r]
  | .issueVoid seq => [0x0E, seq]
  | .frameAbandoned k => [0x0F, k.code]
  | .heatGrant total => [0x10] ++ bytes16 total
  | .counterAlert i => [0x11, BitVec.ofNat 8 i]
  | .noticesLost => [0x12]

/-- A notice record: the kind byte and five field bytes, unused ones 0x00 (R185). -/
def Notice.record (n : Notice) : List Byte := n.fields ++ List.replicate (6 - n.fields.length) 0x00

/-- The notice record of kind NONE (R185). -/
def noneRecord : List Byte := List.replicate 6 0x00

end Sys2Proof.Machine
end

