-- ==== Sys2Proof/Machine/Flags.lean ====
section
/-! DEFINITION. The conditions that rules read and no block stores: number comparison, end status, busy
consumers, held, eligibility, the arbiter's candidate and its gap, own position, side mapping, doors secure. -/

namespace Sys2Proof.Machine

/-- `a` is newer than `b` when (a − b) mod 65536 lies in 1 to 32767 (00_scope.md section 6, R15). -/
def isNewer (a b : FormationNumber) : Bool :=
  let d := (a - b).toNat
  1 ≤ d && d ≤ 32767

/-! ### End links -/

/-- End status (R11). A PAIRED end always has its record. -/
def EndLink.status (e : EndLink) : EndStatus :=
  match e.state, e.neighbour with
  | .openEnd, _ => .openEnd
  | .coupled, _ => .unpaired
  | .paired, some n => .paired n.id n.coachEnd
  | .paired, none => .unpaired

/-- The end link of an end. -/
def State.endLink (s : State) : CoachEnd → EndLink
  | .a => s.endA
  | .b => s.endB

/-- The raw contact sense input of an end. -/
def Pins.contact (p : Pins) : CoachEnd → Bool
  | .a => p.contactA
  | .b => p.contactB

/-! ### Consist table -/

/-- The node ID of this node (00_scope.md section 6). -/
def State.id (s : State) : NodeId := s.straps.serial

/-- The CC is FORMED. -/
def State.isFormed (s : State) : Bool := s.cc.formState = .formed

/-- The position of the first element that satisfies a test, from 1. -/
def positionWhere {α : Type} (test : α → Bool) : List α → Option Nat
  | [] => none
  | x :: xs => if test x then some 1 else (positionWhere test xs).map (· + 1)

/-- The position of a node ID in the table (R47). -/
def ConsistTable.positionOf (t : ConsistTable) (id : NodeId) : Option Nat :=
  positionWhere (fun e => e.member.id = id) t.entries

/-- The entry at a position, counted from 1 (R47). -/
def ConsistTable.entryAt (t : ConsistTable) (p : Nat) : Option TableEntry :=
  if p = 0 then none else t.entries[p - 1]?

/-- N (R47). -/
def ConsistTable.size (t : ConsistTable) : Nat := t.entries.length

/-- The own position in the current consist table (R47). The table always contains this node, so the 0 of
a table without it is never read in a state the node reaches. -/
def State.ownPosition (s : State) : Nat := (s.cc.table.positionOf s.id).getD 0

/-- The own orientation in the current consist table (R56). -/
def State.ownOrientation (s : State) : CoachEnd :=
  match s.cc.table.entryAt s.ownPosition with
  | some e => e.member.orientation
  | none => .a

/-- The node ID of the entry whose cab state is ACTIVE, if there is one (R47, R135). -/
def ConsistTable.activeCab (t : ConsistTable) : Option NodeId :=
  (t.entries.find? (fun e => e.member.cab = .active)).map (fun e => e.member.id)

/-- The own position in a candidate order (R41). -/
def CandidateOrder.positionOf (o : CandidateOrder) (id : NodeId) : Option Nat :=
  positionWhere (fun m => m.id = id) o.members

/-- The TALLY of a candidate order (02 section 2.7). -/
def CandidateOrder.tally (o : CandidateOrder) : Tally :=
  { n := o.members.length, digest := o.digest, partialFlag := o.partialFlag }

/-- The physical side that is train-left, `none` when the mapping is UNKNOWN (R55). -/
def State.trainLeft (s : State) : Option Side :=
  if s.isFormed then
    some (match s.ownOrientation with
      | .a => s.straps.sideRef
      | .b => s.straps.sideRef.other)
  else none

/-- The sender position that a frame header carries (R54). -/
def State.headerPosition (s : State) (k : FrameKind) : Byte :=
  match k with
  | .reform | .roll | .tally => 0
  | .doorcmd | .doorstat | .heatbid | .hold =>
    if s.isFormed then BitVec.ofNat 8 s.ownPosition else 0

/-! ### Busy consumers (R85) -/

/-- The CC is busy while an ordering computation runs, an abandoned one included (R85). -/
def State.ccBusy (s : State) : Bool := s.cc.ordering.isSome || !s.cc.abandoned.isEmpty

/-- The HSU is busy while an allocation computation runs (R85). -/
def State.hsuBusy (s : State) : Bool := s.hsu.alloc.isSome

/-- The consumer of a frame kind is busy (05 section 5.5). -/
def State.consumerBusy (s : State) : FrameKind → Bool
  | .reform | .roll | .tally => s.ccBusy
  | .heatbid => s.hsuBusy
  | .doorcmd | .doorstat | .hold => false

/-! ### Transmit arbiter (R63 to R66) -/

/-- The node is held while its hold list holds an entry (R92). -/
def State.held (s : State) : Bool := !s.lhu.holds.isEmpty

/-- The breakthrough condition (R64). -/
def State.breakthrough (s : State) : Bool :=
  match s.hsu.lastBidSent with
  | none => true
  | some t => t + Config.tBREAK ≤ s.now

/-- The head of the SUPPLY queue is eligible (R64). -/
def State.supplyEligible (s : State) : Bool := !s.held || s.breakthrough

/-- The places of the transmit store (R58). -/
inductive StorePlace where
  | reformSlot
  | holdSlot
  | safety
  | consist
  | supply
deriving DecidableEq, Repr

/-- The arbiter's candidate: the first frame found in rank order, and its place (R63). -/
def State.candidate (s : State) : Option (StorePlace × Frame) :=
  match s.lau.reformSlot, s.lau.holdSlot, s.lau.safety, s.lau.consist, s.lau.supply with
  | some f, _, _, _, _ => some (.reformSlot, f)
  | none, some f, _, _, _ => some (.holdSlot, f)
  | none, none, f :: _, _, _ => some (.safety, f)
  | none, none, [], f :: _, _ => some (.consist, f)
  | none, none, [], [], f :: _ => if s.supplyEligible then some (.supply, f) else none
  | none, none, [], [], [] => none

/-- Frames in the five places together (R58). -/
def Lau.storeCount (l : Lau) : Nat :=
  l.reformSlot.toList.length + l.holdSlot.toList.length
    + l.safety.length + l.consist.length + l.supply.length

/-- The gap that applies to a frame (R66). -/
def Lau.gap (l : Lau) (f : Frame) : Time :=
  if f.kind.isUrgent ∨ Config.urgentMark ≤ l.storeCount then Config.tGAPS else Config.tGAPN

/-- This node drives the line, with a frame or a jam (R65). -/
def Lau.driving (l : Lau) : Bool :=
  match l.tx with
  | .send _ | .jam _ => true
  | .ready | .backoff _ | .rewait => false

/-- Carrier is on the line, from any node (R65). -/
def State.carrier (s : State) : Bool := s.pins.peerCarrier || s.lau.driving

/-! ### Door conditions -/

/-- The own summary copy of a side (R137). -/
def Dcu.summary (d : Dcu) : Side → SideSummary
  | .one => d.side1
  | .two => d.side2

/-- A position's door status entry is fresh and reports both sides secure (R141 condition 3). -/
def Dcu.reportsSecure (d : Dcu) (p : Nat) : Bool :=
  d.doorStatus.any (fun e => e.position = p && e.fresh && e.left && e.right)

/-- The doors-secure condition (R141). -/
def State.doorsSecure (s : State) : Bool :=
  s.isFormed && !s.cc.table.partialFlag && s.dcu.side1.secure && s.dcu.side2.secure
    && ((List.range s.cc.table.size).map (· + 1)).all
        (fun p => p = s.ownPosition || s.dcu.reportsSecure p)

/-- The physical sides that a side field names (R130), both when the mapping is UNKNOWN. -/
def State.sidesOf (s : State) (d : DoorSide) : List Side :=
  match s.trainLeft, d with
  | some side, .left => [side]
  | some side, .right => [side.other]
  | some _, .both | none, _ => [.one, .two]

/-! ### Heating values -/

/-- The frost kW of a demand record (R147). -/
def Demand.frostKw (d : Demand) (rating : Nat) : Nat := d.frost * rating / 100

/-- The comfort kW of a demand record (R147). -/
def Demand.comfortKw (d : Demand) (rating : Nat) : Nat := d.comfort * rating / 100

/-- F_own (R147). -/
def State.frostOwn (s : State) : Nat := (s.hsu.demands.map (fun d => d.frostKw s.straps.rating)).sum

/-- C_own (R147). -/
def State.comfortOwn (s : State) : Nat :=
  (s.hsu.demands.map (fun d => d.comfortKw s.straps.rating)).sum

/-- A position's bid entry, when it is fresh (R153). -/
def Hsu.freshBid (h : Hsu) (p : Nat) : Option Bid :=
  h.bids.find? (fun b => b.position = p && b.fresh)

/-- Every position of the table other than the own one has a fresh bid (R158). -/
def State.allBidsFresh (s : State) : Bool :=
  ((List.range s.cc.table.size).map (· + 1)).all
    (fun p => p = s.ownPosition || (s.hsu.freshBid p).isSome)

/-! ### Channels -/

/-- The bank phase: milliseconds since release, modulo 2000 (R96). -/
def bankPhase (now : Time) : Nat := now / 1000 % Config.bankCycleMs

/-- A channel's counter at a moment (R95, R98, R101). -/
def Channel.counterAt (c : Channel) (now : Time) : Nat :=
  match c.mode with
  | .off => 0
  | .sequence | .pwm => c.base + (now - c.since) / 1000

/-- The moment at which a running channel's counter reaches a value. -/
def Channel.reaches (c : Channel) (value : Nat) : Time := c.since + (value - c.base) * 1000

end Sys2Proof.Machine
end

