-- ==== Sys2Proof/Machine/ConsistOrder.lean ====
section
/-! DEFINITION. What the CC computes from ROLL records (chapters 2 and 3): the walk along mutual links (R29),
the closure test (R27), the cab arbiter (R42), position 1 and orientations (R43 to R45), the digest (R46). -/

namespace Sys2Proof.Machine

/-! ### Records and links -/

/-- The status of one end of a record. -/
def RollRecord.status (r : RollRecord) : CoachEnd → EndStatus
  | .a => r.endA
  | .b => r.endB

/-- The record stored for a node ID. -/
def recordOf (rs : List RollRecord) (id : NodeId) : Option RollRecord := rs.find? (fun r => r.id = id)

/-- The record and the end that a link from end `e` of a record leads to, when the end is PAIRED with a
record of the table and the link is mutual (R27 condition 4, R29). -/
def linkFrom (rs : List RollRecord) (r : RollRecord) (e : CoachEnd) : Option (RollRecord × CoachEnd) :=
  match r.status e with
  | .paired y f =>
    match recordOf rs y with
    | some next => if next.status f = .paired r.id e then some (next, f) else none
    | none => none
  | .openEnd | .unpaired => none

/-- The walk of R29 out of end `e` of a record: each record entered, with the end it is entered through.
It stops where no mutual link leads on, or where the link leads back to a record already walked. -/
def walkOut (rs : List RollRecord) : Nat → List NodeId → RollRecord → CoachEnd → List (RollRecord × CoachEnd)
  | 0, _, _, _ => []
  | fuel + 1, walked, r, e =>
    match linkFrom rs r e with
    | none => []
    | some (next, f) =>
      if walked.contains next.id then []
      else (next, f) :: walkOut rs fuel (next.id :: walked) next f.other

/-- The chain walked from a record, out of end A and then out of end B (R29), in chain order. Each link
keeps the end that faces the head of the chain. A closed set is its own walk (R27 condition 5). -/
def chainFrom (rs : List RollRecord) (own : RollRecord) : List ChainLink :=
  let outA := walkOut rs rs.length [own.id] own .a
  let outB := walkOut rs rs.length (own.id :: outA.map (fun x => x.1.id)) own .b
  (outA.map (fun x => { record := x.1, facing := x.2.other : ChainLink })).reverse
    ++ [{ record := own, facing := .a }]
    ++ outB.map (fun x => { record := x.1, facing := x.2 })

/-! ### Closure (R27) -/

/-- The two ends of a record. -/
def bothEnds : List CoachEnd := [.a, .b]

/-- Condition 2: no UNPAIRED end. -/
def noUnpaired (rs : List RollRecord) : Bool :=
  rs.all (fun r => bothEnds.all (fun e => r.status e ≠ .unpaired))

/-- Conditions 3 and 4: every PAIRED end names a record of the table, and the link is mutual. -/
def linksMutual (rs : List RollRecord) : Bool :=
  rs.all (fun r => bothEnds.all (fun e =>
    match r.status e with
    | .paired _ _ => (linkFrom rs r e).isSome
    | .openEnd | .unpaired => true))

/-- How many ends of a record are OPEN. -/
def RollRecord.openEnds (r : RollRecord) : Nat := (bothEnds.filter (fun e => r.status e = .openEnd)).length

/-- Condition 5: one record with both ends OPEN, or exactly two OPEN ends on different records, and every
record reached from this node. -/
def oneChain (rs : List RollRecord) (own : RollRecord) : Bool :=
  (match rs with
    | [r] => r.openEnds = 2
    | _ => (rs.map RollRecord.openEnds).sum = 2 && rs.all (fun r => r.openEnds ≤ 1))
  && (chainFrom rs own).length = rs.length

/-- The closure test on a candidate table (R27). -/
def closed (rs : List RollRecord) (oversize : Bool) (own : RollRecord) : Bool :=
  !oversize && noUnpaired rs && linksMutual rs && oneChain rs own

/-! ### Cab arbiter (R42) -/

/-- The cab state with which a record takes part: NONE for a coach that is no cab type. -/
def RollRecord.claim (r : RollRecord) : OwnCab := if r.coachType.isCab then r.cab else .noClaim

/-- The lowest node ID of a list. -/
def lowestId : List NodeId → Option NodeId
  | [] => none
  | x :: xs =>
    match lowestId xs with
    | none => some x
    | some y => if x.toNat ≤ y.toNat then some x else some y

/-- The node IDs of the records with a claim. -/
def claimants (rs : List RollRecord) (c : OwnCab) : List NodeId :=
  (rs.filter (fun r => r.claim = c)).map RollRecord.id

/-- The member that the arbiter grants the cab role: the lowest ACTIVE claim, else the lowest REQUESTED. -/
def cabGranted (rs : List RollRecord) : Option NodeId :=
  match lowestId (claimants rs .active) with
  | some id => some id
  | none => lowestId (claimants rs .requested)

/-- The cab result of a record (R42). -/
def cabResult (granted : Option NodeId) (r : RollRecord) : CabResult :=
  if r.claim = .noClaim then .noCab
  else if granted = some r.id then .active else .denied

/-! ### Position 1, numbering and orientation (R43 to R45) -/

/-- The chain seen from its other end. -/
def reverseChain (c : List ChainLink) : List ChainLink :=
  (c.map (fun l => { l with facing := l.facing.other })).reverse

/-- The front is the chain's head: the ACTIVE member's cab end faces it (R43), or no member is ACTIVE and
the head is the chain end with the lower node ID (R44). -/
def headIsFront (c : List ChainLink) (granted : Option NodeId) : Bool :=
  match granted with
  | some id =>
    match c.find? (fun l => l.record.id = id) with
    | some l => l.facing = l.record.cabEnd
    | none => true
  | none =>
    match c, c.getLast? with
    | [l], _ => l.facing = .a
    | h :: _, some t => h.record.id.toNat ≤ t.record.id.toNat
    | [], _ | _, none => true

/-- The chain in the order of positions, each link's `facing` the end it is entered through (R45). -/
def numbered (c : List ChainLink) (granted : Option NodeId) : List ChainLink :=
  if headIsFront c granted then c else reverseChain c

/-- The ordering computation (R41 to R46). -/
def computeOrder (c : List ChainLink) (partialFlag : Bool) : CandidateOrder :=
  let granted := cabGranted (c.map ChainLink.record)
  let members := (numbered c granted).map
    (fun l => Member.ofRecord l.record l.facing (cabResult granted l.record))
  { members := members, partialFlag := partialFlag, digest := digestOf members partialFlag }

end Sys2Proof.Machine
end

