-- ==== Sys2Proof/Machine/Ops.lean ====
section
/-! DEFINITION. The operations every family shares: block updates, when a command acts, counters and notices
(R177 to R180), building a frame (R15, R54), the submissions of 04 section 4.3, and the local port's take. -/

namespace Sys2Proof.Machine

/-! ### Block updates -/

def State.setNow (s : State) (t : Time) : State := { s with now := t }
def State.setPins (s : State) (p : Pins) : State := { s with pins := p }
def State.setCc (s : State) (c : Cc) : State := { s with cc := c }
def State.setLau (s : State) (l : Lau) : State := { s with lau := l }
def State.setRxp (s : State) (r : Rxp) : State := { s with rxp := r }
def State.setLhu (s : State) (l : Lhu) : State := { s with lhu := l }
def State.setOtb (s : State) (o : Otb) : State := { s with otb := o }
def State.setDlc (s : State) (d : Dlc) : State := { s with dlc := d }
def State.setDcu (s : State) (d : Dcu) : State := { s with dcu := d }
def State.setHsu (s : State) (h : Hsu) : State := { s with hsu := h }
def State.setPort (s : State) (p : Port) : State := { s with port := p }

/-- Replace the end link of an end; the other one is untouched (R12). -/
def State.setEnd (s : State) (e : CoachEnd) (l : EndLink) : State :=
  match e with
  | .a => { s with endA := l }
  | .b => { s with endB := l }

/-! ### When a command acts -/

/-- Let time pass to a moment that has not come yet. -/
def State.advanceTo (s : State) (t : Time) : State := s.setNow (max s.now t)

/-- An event from outside acts only while the node is in service: external reset stops every block (R13,
R40, R76, R94, R106, R146, R168, R176). -/
def State.inService (s : State) (act : State → State) : State :=
  if s.inReset then s else act s

/-- An event of the node's own has an occasion, the moment it comes, or has none: then it does not
happen and nothing changes (log entry 1). Time passes to the occasion (log entry 2). -/
def State.onOccasion (s : State) (occasion : Option Time) (act : State → State) : State :=
  if s.inReset then s
  else
    match occasion with
    | none => s
    | some t => act (s.advanceTo t)

/-- A timer that several events restart (R138, R150): an expiry that has come and is not taken yet is owed after
a restart, since each of two events that come together acts (log entry 30). -/
def owedAfter (timer owed : Option Time) (now : Time) : Option Time :=
  match timer with
  | some t => if t ≤ now then some t else owed
  | none => owed

/-! ### Notices and counters -/

/-- A block posts a notice (R177). -/
def Port.post (p : Port) (n : Notice) : Port :=
  if p.notices.length < Config.noticeCap then { p with notices := p.notices ++ [n] }
  else { p with lostMarker := true }

def State.post (s : State) (n : Notice) : State := s.setPort (s.port.post n)

/-- The counters by index (R179, 10 section 10.6). -/
inductive Counter where
  | framesSent
  | framesReceived
  | checkErrors
  | collisions
  | framesAbandoned
  | lateCollisions
  | receiveDrops
  | staleFrames
  | holdsSent
  | holdBreakthroughs
  | failedFormations
  | doorRefusals
  | leafFaults
  | beaconErrors
deriving DecidableEq, Repr

def Counter.index : Counter → Nat
  | .framesSent => 0
  | .framesReceived => 1
  | .checkErrors => 2
  | .collisions => 3
  | .framesAbandoned => 4
  | .lateCollisions => 5
  | .receiveDrops => 6
  | .staleFrames => 7
  | .holdsSent => 8
  | .holdBreakthroughs => 9
  | .failedFormations => 10
  | .doorRefusals => 11
  | .leafFaults => 12
  | .beaconErrors => 13

/-- A counter's value (R181). -/
def Port.counter (p : Port) (i : Nat) : BitVec 16 := p.counters.getD i 0

/-- An increment (R179), which posts COUNTER_ALERT when it takes the counter from 32767 to 32768 (R180). -/
def Port.count (p : Port) (i : Nat) : Port :=
  let counted := { p with counters := p.counters.set i (p.counter i + 1) }
  if (p.counter i).toNat + 1 = Config.alertMark then counted.post (.counterAlert i) else counted

def State.count (s : State) (c : Counter) : State := s.setPort (s.port.count c.index)

/-! ### Building and submitting frames -/

/-- A frame built now: the formation number the node holds (R15) and the sender position of R54. -/
def State.buildFrame (s : State) (k : FrameKind) (payload : List Byte) : Frame where
  kind := k
  sender := s.id
  number := s.cc.number
  position := s.headerPosition k
  payload := payload

/-- The LAU's answers to a submission (04 section 4.3). -/
inductive Submission where
  | stored
  | replaced
  | full
deriving DecidableEq, Repr

/-- Take the place of the first frame of a kind in a queue, at its position. -/
def replaceKind (k : FrameKind) (f : Frame) : List Frame → List Frame
  | [] => []
  | g :: gs => if g.kind = k then f :: gs else g :: replaceKind k f gs

/-- A queue with a supersede rule for the submitted kind and a capacity (R61, R62). -/
def superseding (cap : Nat) (q : List Frame) (f : Frame) : List Frame × Submission :=
  if q.any (fun g => g.kind = f.kind) then (replaceKind f.kind f q, .replaced)
  else if q.length < cap then (q ++ [f], .stored)
  else (q, .full)

/-- Submission to the REFORM slot (R59). -/
def Lau.submitReform (l : Lau) (f : Frame) : Lau := { l with reformSlot := some f }

/-- Submission to the HOLD slot (R59). -/
def Lau.submitHold (l : Lau) (f : Frame) : Lau := { l with holdSlot := some f }

/-- Submission of a DOORCMD (R60): no supersede rule. -/
def Lau.submitDoorcmd (l : Lau) (f : Frame) : Lau × Submission :=
  if l.safety.length < Config.safetyCap then ({ l with safety := l.safety ++ [f] }, .stored)
  else (l, .full)

/-- Submission of a DOORSTAT (R61). -/
def Lau.submitDoorstat (l : Lau) (f : Frame) : Lau :=
  { l with safety := (superseding Config.safetyCap l.safety f).1 }

/-- Submission of a ROLL or a TALLY (R62). -/
def Lau.submitConsist (l : Lau) (f : Frame) : Lau :=
  { l with consist := (superseding Config.consistCap l.consist f).1 }

/-- Submission of a HEATBID (R62). -/
def Lau.submitHeatbid (l : Lau) (f : Frame) : Lau :=
  { l with supply := (superseding Config.supplyCap l.supply f).1 }

/-- The LHU submits a HOLD with a hold time in ms (R88 to R90). -/
def State.submitHold (s : State) (timeMs : Nat) : State :=
  s.setLau (s.lau.submitHold (s.buildFrame .hold (holdPayload timeMs)))

/-! ### The local port -/

/-- Put a response in the port (R170): not ready yet, ready within tRESP. -/
def Port.prepare (p : Port) (now : Time) (response : List Byte) : Port :=
  { p with phase := .response, response := response, ready := false, respBy := some (now + Config.tRESP) }

/-- A byte clocked in that completes no request (R169, R184): the kind byte of a request with arguments, or an
argument byte before the last. The byte that completes a request is the last one of that request's command. -/
def Port.clock (p : Port) (b : Byte) : Port :=
  match p.phase with
  | .idle | .response => p
  | .kind =>
    match requestOf b with
    | some r => if 0 < r.argBytes then { p with phase := .args [b] } else p
    | none => p
  | .args clocked =>
    match clocked.head?.bind requestOf with
    | some r => if clocked.length < r.argBytes then { p with phase := .args (clocked ++ [b]) } else p
    | none => p

/-- The bytes clocked in so far begin the bytes of a request, which its last byte then completes (R169). -/
def begins (clocked bytes : List Byte) : Bool :=
  decide (clocked.length < bytes.length) && bytes.take clocked.length == clocked

/-- The owner acts on the state at the take, and its response is prepared (R169, R170). -/
def State.takeRequest (s : State) (act : State → State × List Byte) : State :=
  let r := act s
  r.1.setPort (r.1.port.prepare r.1.now r.2)

/-- A request's command (R169): its bytes, or those of them that are not clocked in yet, are clocked in, and it
is taken at the last one, however they came in. Only in a transaction that has not taken a request. -/
def State.onRequest (s : State) (i : Instr) (act : State → State × List Byte) : State :=
  if s.inReset then s
  else
    match s.port.phase with
    | .idle | .response => s
    | .kind => s.takeRequest act
    | .args clocked =>
      if begins clocked (requestBytes i) then (s.setPort { s.port with phase := .kind }).takeRequest act else s

/-- A response of the result code alone (R185). -/
def answer (r : Result) : List Byte := [r.code]

end Sys2Proof.Machine
end

