-- ==== Sys2Proof/Machine/OutputTimer.lean ====
section
/-! DEFINITION. The Output Timer Bank (chapter 6): sequence runs, PWM periods, duty writes, stagger, and the
PWM events. A_MATCH and B_MATCH, which hand events to the DLC, stand in DoorLeaf.lean. -/

namespace Sys2Proof.Machine

/-! ### SEQUENCE mode -/

/-- A run with A = 0 that has an A-match has it at its start (R99). -/
def matchesAtStart (a b : Nat) : Bool := decide (a = 0 ∧ a < b)

/-- A sequence start (R98), taken in every mode. The output of a run with A = 0 becomes active at the start itself
(R99). -/
def Channel.startRun (c : Channel) (now : Time) (a b : Nat) : Channel :=
  { c with
    mode := .sequence, base := 0, since := now, compareA := a, compareB := b, output := matchesAtStart a b }

/-- A stop of a run (R100). -/
def Channel.stopRun (c : Channel) : Channel :=
  match c.mode with
  | .off => c
  | .sequence | .pwm => { c with mode := .off, base := 0, output := false }

/-- The moment of a run's A-match (R99), while it has not been handed. -/
def Channel.aMatchAt (c : Channel) : Option Time :=
  if c.mode = .sequence ∧ c.compareA < c.compareB ∧ c.output = false then some (c.reaches c.compareA)
  else none

/-- The moment of a run's B-match (R99): after the A-match of a run that has one. -/
def Channel.bMatchAt (c : Channel) : Option Time :=
  if c.mode = .sequence ∧ (c.compareA < c.compareB → c.output = true) then some (c.reaches c.compareB)
  else none

/-! ### PWM mode -/

/-- A duty write (R101 from OFF, R102 in PWM). -/
def Channel.writeDuty (c : Channel) (now : Time) (duty : Nat) : Channel :=
  let w := min duty 1000 * 2
  match c.mode with
  | .off =>
    { c with
      mode := .pwm
      base := (bankPhase now + (Config.bankCycleMs - c.offset % Config.bankCycleMs)) % Config.bankCycleMs
      since := now / 1000 * 1000
      compareA := 0
      compareB := Config.pwmMs
      output := false
      pendingA := if w = 0 then none else some w }
  | .pwm =>
    if w ≤ c.compareA then
      { c with compareA := w, pendingA := none, output := c.output && c.counterAt now < w }
    else { c with pendingA := some w }
  | .sequence => c

/-- A stop of PWM (R103). -/
def Channel.stopPwm (c : Channel) : Channel :=
  match c.mode with
  | .pwm =>
    { c with
      mode := .off, base := 0, output := false, compareA := 0, pendingA := none
      offset := c.pendingOffset.getD c.offset, pendingOffset := none }
  | .off | .sequence => c

/-- The moment at which a period's active part ends (R101). -/
def Channel.pwmCompareAAt (c : Channel) : Option Time :=
  if c.mode = .pwm ∧ c.output = true ∧ c.compareA < c.compareB then some (c.reaches c.compareA) else none

/-- The moment at which a period ends (R101): not before its active part has ended. -/
def Channel.pwmPeriodEndAt (c : Channel) : Option Time :=
  if c.mode = .pwm ∧ (c.output = false ∨ c.compareB ≤ c.compareA) then some (c.reaches c.compareB) else none

/-- By how much the period that starts is lengthened (R105); 0 when no offset is pending. -/
def Channel.lengthening (c : Channel) : Nat :=
  match c.pendingOffset with
  | none => 0
  | some o => (o + (Config.bankCycleMs - c.offset % Config.bankCycleMs)) % Config.bankCycleMs

/-- A period ends and the next one starts (R101 steps 1 to 4, R105). The new period is timed from the
moment at which the old one ended (log entry 21). -/
def Channel.nextPeriod (c : Channel) : Channel :=
  let a := c.pendingA.getD c.compareA
  { c with
    since := c.reaches c.compareB
    base := 0
    compareB := Config.pwmMs + c.lengthening
    offset := c.pendingOffset.getD c.offset
    pendingOffset := none
    compareA := a
    pendingA := none
    output := 0 < a }

/-! ### Stagger -/

/-- The offset of heater channel k for position p in a consist of n (R104). -/
def staggerOffset (p n k : Nat) : Nat :=
  ((p - 1) * Config.bankCycleMs / n + k * Config.staggerStepMs) % Config.bankCycleMs

/-- A computed offset reaches a channel (R104). -/
def Channel.setOffset (c : Channel) (o : Nat) : Channel :=
  if o = c.offset then { c with pendingOffset := none }
  else
    match c.mode with
    | .off => { c with offset := o }
    | .pwm => { c with pendingOffset := some o }
    | .sequence => c

/-! ### The bank -/

/-- Change one channel. -/
def Otb.modify (o : Otb) (i : Nat) (f : Channel → Channel) : Otb := { o with channels := o.channels.modify i f }

def Otb.channel? (o : Otb) (i : Nat) : Option Channel := o.channels[i]?

/-- A stagger setting (R104), for a node with `heaters` present heater channels. -/
def Otb.stagger (o : Otb) (heaters p n : Nat) : Otb :=
  if 1 ≤ p ∧ p ≤ n ∧ n ≤ 32 then
    (List.range heaters).foldl
      (fun o k => o.modify (Config.heaterBase + k) (fun c => c.setOffset (staggerOffset p n k))) o
  else o

/-- The HSU sends a stagger setting (R164). -/
def State.stagger (s : State) (p n : Nat) : State := s.setOtb (s.otb.stagger s.straps.heatCh p n)

/-- The occasion of an event of a leaf channel. -/
def State.leafChannelOccasion (s : State) (i : Nat) (at_ : Channel → Option Time) : Option Time :=
  if i < Config.heaterBase then (s.otb.channel? i).bind at_ else none

/-- The occasion of an event of a heater channel. -/
def State.heaterChannelOccasion (s : State) (i : Nat) (at_ : Channel → Option Time) : Option Time :=
  if Config.heaterBase ≤ i then (s.otb.channel? i).bind at_ else none

/-- PWM_COMPARE_A (R101): the output becomes inactive, and no event is handed. -/
def execPwmCompareA (channel : Nat) (s : State) : Host.Outcome State Fault Refusal :=
  .next (s.onOccasion (s.heaterChannelOccasion channel Channel.pwmCompareAAt) fun s =>
    s.setOtb (s.otb.modify channel fun c => { c with output := false }))

/-- PWM_PERIOD_END (R101, R105): the next period starts. The HSU takes no action on it (R163). -/
def execPwmPeriodEnd (channel : Nat) (s : State) : Host.Outcome State Fault Refusal :=
  .next (s.onOccasion (s.heaterChannelOccasion channel Channel.pwmPeriodEndAt) fun s =>
    s.setOtb (s.otb.modify channel Channel.nextPeriod))

end Sys2Proof.Machine
end

