-- ==== Sys2Proof/Machine/DoorStatus.lean ====
section
/-! DEFINITION. Door status and doors secure (08 sections 8.4 to 8.6): DOORSTAT submissions, the door status
table, the doors-secure state, and what a change of the side summaries does. -/

namespace Sys2Proof.Machine

/-- The DOORSTAT built now (R137): in FORMED, where the mapping is known. -/
def State.buildDoorstat (s : State) : Frame :=
  let left := s.trainLeft.getD .one
  s.buildFrame .doorstat
    (doorstatPayload s.ownPosition (s.dcu.summary left).secure (s.dcu.summary left.other).secure)

/-- A DOORSTAT is submitted and its timer restarted (R138). An expiry that has come is not lost by it. The DCU
takes no action on the LAU's answer. -/
def State.submitDoorstat (s : State) : State :=
  (s.setLau (s.lau.submitDoorstat s.buildDoorstat)).setDcu
    { s.dcu with
      doorstatTimer := some (s.now + Config.tDSTAT)
      doorstatOwed := owedAfter s.dcu.doorstatTimer s.dcu.doorstatOwed s.now }

/-- The doors-secure condition is evaluated; a change drives DSEC and posts DOORS_SECURE (R141, R142). -/
def State.evalDoorsSecure (s : State) : State :=
  if s.doorsSecure = s.dcu.secureOn then s
  else (s.setDcu { s.dcu with secureOn := s.doorsSecure }).post (.doorsSecure s.doorsSecure)

/-- After an event that changed leaf states: the summaries are set again, and a change is handed to the
DCU (R125), which copies it (R137), reports it in FORMED (R138) and evaluates doors-secure (R142). -/
def State.settleLeaves (s : State) : State :=
  let one := sideSummary s.dlc.leaves .one
  let two := sideSummary s.dlc.leaves .two
  if one = s.dcu.side1 ∧ two = s.dcu.side2 then s
  else
    let s := s.setDcu { s.dcu with side1 := one, side2 := two }
    let s := if s.isFormed then s.submitDoorstat else s
    s.evalDoorsSecure

/-- A DOORSTAT stored for a position (R139). -/
def Dcu.store (d : Dcu) (e : DoorStatus) : Dcu :=
  { d with doorStatus := d.doorStatus.filter (fun x => x.position ≠ e.position) ++ [e] }

/-- A DOORSTAT taken by the DCU (R139, R189). -/
def State.takeDoorstat (s : State) (f : Frame) : State :=
  match doorstatOf f.payload, s.cc.table.positionOf f.sender with
  | some (position, left, right), some p =>
    if s.isFormed ∧ f.position.toNat = p ∧ position.toNat = p ∧ p ≠ s.ownPosition then
      (s.setDcu (s.dcu.store
        { position := p, left := left, right := right, receivedAt := s.now, fresh := true })).evalDoorsSecure
    else s
  | _, _ => s

/-- The DCU at FORMED entry (R143). -/
def State.dcuFormedEntry (s : State) : State :=
  ((s.setDcu { s.dcu with doorStatus := [] }).evalDoorsSecure).submitDoorstat

/-- The DCU when the CC leaves FORMED (R144). -/
def State.dcuLeaveFormed (s : State) : State :=
  (s.setDcu { s.dcu with doorstatTimer := none, doorstatOwed := none }).evalDoorsSecure

/-- The occasion of DOORSTAT_PERIOD: an expiry that has come already, or the next one. -/
def State.doorstatOccasion (s : State) : Option Time :=
  if s.isFormed then s.dcu.doorstatOwed.or s.dcu.doorstatTimer else none

/-- An expiry of the DOORSTAT timer is taken. -/
def Dcu.takeDoorstatExpiry (d : Dcu) : Dcu :=
  if d.doorstatOwed.isSome then { d with doorstatOwed := none } else { d with doorstatTimer := none }

/-- DOORSTAT_PERIOD (R138). -/
def execDoorstatPeriod (s : State) : Host.Outcome State Fault Refusal :=
  .next (s.onOccasion s.doorstatOccasion fun s => (s.setDcu s.dcu.takeDoorstatExpiry).submitDoorstat)

/-- The moment at which a position's fresh door status goes stale (R140). -/
def State.doorstatStaleOccasion (s : State) (p : Nat) : Option Time :=
  if s.isFormed then
    (s.dcu.doorStatus.find? (fun e => e.position = p && e.fresh)).map (fun e => e.receivedAt + Config.tDFRESH)
  else none

/-- A position's door status is no longer fresh; it keeps its fields (R140). -/
def Dcu.markStale (d : Dcu) (p : Nat) : Dcu :=
  { d with doorStatus := d.doorStatus.map (fun e => if e.position = p then { e with fresh := false } else e) }

/-- DOORSTAT_STALE (R140). -/
def execDoorstatStale (position : Nat) (s : State) : Host.Outcome State Fault Refusal :=
  .next (s.onOccasion (s.doorstatStaleOccasion position) fun s =>
    (s.setDcu (s.dcu.markStale position)).evalDoorsSecure)

end Sys2Proof.Machine
end

