-- ==== Sys2Proof/Machine/Heating.lean ====
section
/-! DEFINITION. The Heating Share Unit (chapter 9): demands and offer, bids, the allocation, settle, the
applied grant with its sources, and the channel duties. -/

namespace Sys2Proof.Machine

/-! ### Allocation (R154, R155) -/

/-- The inputs of one position (R154): the own values, a fresh bid, or rated heat with no offer. -/
def State.allocInput (s : State) (p : Nat) (e : TableEntry) : AllocInput :=
  if p = s.ownPosition then { frost := s.frostOwn, comfort := s.comfortOwn, offer := s.hsu.offer }
  else
    match s.hsu.freshBid p with
    | some b => { frost := b.frost, comfort := b.comfort, offer := b.offer }
    | none => { frost := e.member.ratedHeat, comfort := 0, offer := 0 }

/-- The inputs of positions from `p` on. -/
def State.allocInputsFrom (s : State) : Nat → List TableEntry → List AllocInput
  | _, [] => []
  | p, e :: es => s.allocInput p e :: s.allocInputsFrom (p + 1) es

/-- The inputs of every position of the current table (R154). -/
def State.allocInputs (s : State) : List AllocInput := s.allocInputsFrom 1 s.cc.table.entries

/-- One share out of an amount: in full when the demands fit, else scaled and floored (R155). -/
def share (demand total amount : Nat) : Nat :=
  if total ≤ amount then demand else demand * amount / total

/-- The grants of all positions (R155). -/
def allocate (inputs : List AllocInput) : List Grant :=
  let budget := (inputs.map AllocInput.offer).sum
  let frostSum := (inputs.map AllocInput.frost).sum
  let frosts := inputs.map (fun i => share i.frost frostSum budget)
  let rest := budget - frosts.sum
  let comfortSum := (inputs.map AllocInput.comfort).sum
  inputs.map (fun i =>
    { frost := share i.frost frostSum budget, comfort := share i.comfort comfortSum rest })

/-- The own grant of a computation (R155). -/
def Allocation.grant (a : Allocation) : Grant :=
  (allocate a.inputs).getD (a.ownPosition - 1) { frost := 0, comfort := 0 }

/-- A computation starts from the inputs of this moment (R154, R156). -/
def State.startAllocation (s : State) : State :=
  s.setHsu
    { s.hsu with
      alloc := some
        { inputs := s.allocInputs
          ownPosition := s.ownPosition
          afterSettle := s.hsu.settle.isNone
          abandoned := false
          endsBy := s.now + Config.tALLOC } }

/-- A trigger (R156). -/
def State.triggerAllocation (s : State) : State :=
  if s.isFormed then
    if s.hsu.alloc.isSome then s.setHsu { s.hsu with rerunPending := true } else s.startAllocation
  else s

/-! ### Duties (R162, R163) -/

/-- A quotient whose divisor of 0 counts as 0 (R162). -/
def quotient (a b : Nat) : Nat := if b = 0 then 0 else a / b

/-- P_k in watts (R162). -/
def State.channelPower (s : State) (d : Demand) : Nat :=
  let rating := s.straps.rating
  quotient (d.frostKw rating * 1000 * min s.hsu.applied.frost s.frostOwn) s.frostOwn
    + quotient (d.comfortKw rating * 1000 * min s.hsu.applied.comfort s.comfortOwn) s.comfortOwn

/-- The duty of a channel in per-mille (R162). -/
def State.channelDuty (s : State) (d : Demand) : Nat := s.channelPower d / s.straps.rating

/-- The duties of every present channel (R162). -/
def State.duties (s : State) : List Nat := s.hsu.demands.map s.channelDuty

/-- A channel's new target sent to the OTB, when it differs from the one held (R163). -/
def Otb.sendTarget (o : Otb) (now : Time) (k old target : Nat) : Otb :=
  if target = old then o
  else if target = 0 then o.modify (Config.heaterBase + k) Channel.stopPwm
  else o.modify (Config.heaterBase + k) (fun c => c.writeDuty now target)

/-- New targets sent for the channels from k on. -/
def Otb.sendTargets (o : Otb) (now : Time) : Nat → List Nat → List Nat → Otb
  | k, old :: olds, target :: targets =>
    (o.sendTarget now k old target).sendTargets now (k + 1) olds targets
  | _, _, _ => o

/-- The conversion of the applied grant into duties (R162, R163). -/
def State.convertDuties (s : State) : State :=
  (s.setOtb (s.otb.sendTargets s.now 0 s.hsu.targets s.duties)).setHsu { s.hsu with targets := s.duties }

/-! ### Applied grant (R159 to R161) -/

/-- The applied grant is set (R161): a change posts HEAT_GRANT and converts the duties. -/
def State.applyGrant (s : State) (g : Grant) : State :=
  if g = s.hsu.applied then s
  else
    ((s.setHsu { s.hsu with applied := g }).post (.heatGrant (g.frost + g.comfort))).convertDuties

/-- The applied grant of the LIMIT source (R160). -/
def State.limitGrant (s : State) : Grant := { frost := min s.hsu.frozen.frost s.frostOwn, comfort := 0 }

/-! ### Bids (R150 to R153) -/

/-- A HEATBID is submitted and the bid timer restarted (R150). An expiry that has come is not lost by it. -/
def State.submitHeatbid (s : State) : State :=
  (s.setLau (s.lau.submitHeatbid
    (s.buildFrame .heatbid (heatbidPayload s.frostOwn s.comfortOwn s.hsu.offer)))).setHsu
    { s.hsu with
      bidTimer := some (s.now + Config.tBID), bidOwed := owedAfter s.hsu.bidTimer s.hsu.bidOwed s.now }

/-- The limits that the table's entry puts on a bid (R152). -/
def limitBid (m : Member) (i : AllocInput) : AllocInput :=
  let frost := min i.frost m.ratedHeat
  { frost := frost
    comfort := min i.comfort (m.ratedHeat - frost)
    offer := if m.supply then min i.offer Config.offerMax else 0 }

/-- The values that the allocation reads for the position are the same before and after a store (R153). -/
def Hsu.bidUnchanged (h : Hsu) (p : Nat) (i : AllocInput) : Bool :=
  match h.freshBid p with
  | some b => b.frost = i.frost && b.comfort = i.comfort && b.offer = i.offer
  | none => false

/-- The entry of a position is set (R152). -/
def Hsu.storeBid (h : Hsu) (b : Bid) : Hsu :=
  { h with bids := h.bids.filter (fun x => x.position ≠ b.position) ++ [b] }

/-- A HEATBID is stored (R152), may end settle (R158), and triggers one allocation for both (R153, R156). -/
def State.storeBid (s : State) (p : Nat) (i : AllocInput) : State :=
  let same := s.hsu.bidUnchanged p i
  let s := s.setHsu (s.hsu.storeBid
    { position := p, frost := i.frost, comfort := i.comfort, offer := i.offer
      receivedAt := s.now, fresh := true })
  let ends := s.hsu.settle.isSome && s.allBidsFresh
  let s := if ends then s.setHsu { s.hsu with settle := none } else s
  if same && !ends then s else s.triggerAllocation

/-- A HEATBID taken by the HSU (R152, R189). -/
def State.takeHeatbid (s : State) (f : Frame) : State :=
  match s.cc.table.positionOf f.sender with
  | some p =>
    if s.isFormed ∧ f.position.toNat = p ∧ p ≠ s.ownPosition then
      match s.cc.table.entryAt p with
      | some e => s.storeBid p (limitBid e.member (heatbidOf f.payload))
      | none => s
    else s
  | none => s

/-! ### Formation events (R165, R166) -/

/-- Settle at FORMED entry (R158): with N = 1 it ends at once. -/
def State.startSettle (s : State) : State :=
  s.setHsu { s.hsu with settle := if s.cc.table.size = 1 then none else some (s.now + Config.tSETTLE) }

/-- The HSU at FORMED entry (R165). -/
def State.hsuFormedEntry (s : State) : State :=
  let s := (s.setHsu { s.hsu with bids := [] }).startSettle
  let s := s.stagger s.ownPosition s.cc.table.size
  s.submitHeatbid.triggerAllocation

/-- The HSU when the CC leaves FORMED (R159, R166). -/
def State.hsuLeaveFormed (s : State) : State :=
  s.setHsu
    { s.hsu with
      alloc := s.hsu.alloc.map (fun a => { a with abandoned := true })
      rerunPending := false
      bidTimer := none
      bidOwed := none
      settle := none
      frozen := s.hsu.applied
      source := .hold
      holdOver := some (s.now + Config.tHOLDOVER) }

/-! ### Own events -/

/-- The occasion of HEATBID_PERIOD: an expiry that has come already, or the next one. -/
def State.heatbidOccasion (s : State) : Option Time :=
  if s.isFormed then s.hsu.bidOwed.or s.hsu.bidTimer else none

/-- An expiry of the bid timer is taken. -/
def Hsu.takeBidExpiry (h : Hsu) : Hsu :=
  if h.bidOwed.isSome then { h with bidOwed := none } else { h with bidTimer := none }

/-- HEATBID_PERIOD (R150). -/
def execHeatbidPeriod (s : State) : Host.Outcome State Fault Refusal :=
  .next (s.onOccasion s.heatbidOccasion fun s => (s.setHsu s.hsu.takeBidExpiry).submitHeatbid)

/-- The moment at which a position's fresh bid goes stale (R153). -/
def State.bidStaleOccasion (s : State) (p : Nat) : Option Time :=
  if s.isFormed then (s.hsu.freshBid p).map (fun b => b.receivedAt + Config.tBFRESH) else none

/-- A position's bid is no longer fresh; it keeps its values (R153). -/
def Hsu.markStale (h : Hsu) (p : Nat) : Hsu :=
  { h with bids := h.bids.map (fun b => if b.position = p then { b with fresh := false } else b) }

/-- BID_STALE (R153). -/
def execBidStale (position : Nat) (s : State) : Host.Outcome State Fault Refusal :=
  .next (s.onOccasion (s.bidStaleOccasion position) fun s =>
    (s.setHsu (s.hsu.markStale position)).triggerAllocation)

/-- The result of a computation that was not abandoned and has no re-run (R157). -/
def State.takeGrant (s : State) (a : Allocation) : State :=
  if a.afterSettle then
    (s.setHsu { s.hsu with source := .computed, holdOver := none }).applyGrant a.grant
  else s

/-- The end of a computation (R156, R157, R166). -/
def State.endAllocation (s : State) (a : Allocation) : State :=
  let idle := s.setHsu { s.hsu with alloc := none, rerunPending := false }
  if s.hsu.rerunPending then idle.startAllocation
  else if a.abandoned then idle
  else idle.takeGrant a

/-- ALLOCATION_END (R157): the end may come at any moment of the computation (log entry 8). -/
def execAllocationEnd (s : State) : Host.Outcome State Fault Refusal :=
  .next (s.inService fun s =>
    match s.hsu.alloc with
    | some a => s.endAllocation a
    | none => s)

/-- The moment at which tSETTLE runs out in FORMED (R158). -/
def State.settleOccasion (s : State) : Option Time := if s.isFormed then s.hsu.settle else none

/-- SETTLE_EXPIRY (R158). -/
def execSettleExpiry (s : State) : Host.Outcome State Fault Refusal :=
  .next (s.onOccasion s.settleOccasion fun s =>
    (s.setHsu { s.hsu with settle := none }).triggerAllocation)

/-- HOLD_OVER_EXPIRY (R160). -/
def execHoldOverExpiry (s : State) : Host.Outcome State Fault Refusal :=
  .next (s.onOccasion s.hsu.holdOver fun s =>
    let s := s.setHsu { s.hsu with source := .limit, holdOver := none }
    s.applyGrant s.limitGrant)

/-! ### Requests (R147 to R149) -/

/-- What follows a change of the own values (R149). `totals` says that F_own, C_own or the offer changed. -/
def State.ownValuesChanged (s : State) (totals : Bool) : State :=
  let s := if totals && s.isFormed then s.submitHeatbid.triggerAllocation else s
  let s := if totals && decide (s.hsu.source = .limit) then s.applyGrant s.limitGrant else s
  s.convertDuties

/-- HEAT_DEMAND (R147). -/
def State.heatDemandRequest (s : State) (channel frost comfort : Byte) : State × List Byte :=
  let k := channel.toNat
  let d : Demand := { frost := frost.toNat, comfort := comfort.toNat }
  if s.straps.heatCh ≤ k then (s, answer .noChannel)
  else if 100 < d.frost ∨ 100 < d.comfort ∨ 100 < d.frost + d.comfort then (s, answer .badValue)
  else if s.hsu.demands[k]? = some d then (s, answer .ok)
  else
    let t := s.setHsu { s.hsu with demands := s.hsu.demands.set k d }
    (t.ownValuesChanged (decide (t.frostOwn ≠ s.frostOwn) || decide (t.comfortOwn ≠ s.comfortOwn)),
     answer .ok)

def execHeatDemand (channel frost comfort : Byte) (s : State) : Host.Outcome State Fault Refusal :=
  .next (s.onRequest (.heatDemand channel frost comfort) fun s => s.heatDemandRequest channel frost comfort)

/-- SUPPLY_OFFER (R148). -/
def State.supplyOfferRequest (s : State) (offer : BitVec 16) : State × List Byte :=
  if !s.straps.coachType.isSupply then (s.setHsu { s.hsu with offer := 0 }, answer .notSupplyType)
  else if Config.offerMax < offer.toNat then (s, answer .badValue)
  else if offer.toNat = s.hsu.offer then (s, answer .ok)
  else ((s.setHsu { s.hsu with offer := offer.toNat }).ownValuesChanged true, answer .ok)

def execSupplyOffer (offer : BitVec 16) (s : State) : Host.Outcome State Fault Refusal :=
  .next (s.onRequest (.supplyOffer offer) fun s => s.supplyOfferRequest offer)

end Sys2Proof.Machine
end

