-- ==== Sys2Proof/Machine/Formation.lean ====
section
/-! DEFINITION. The Consist Controller (chapters 2 and 3): sightings, adoption, starting a formation, GATHER,
the ordering computation, TALLY, FORMED, SOLO, member silence, and the REFORM and CAB requests. -/

namespace Sys2Proof.Machine

/-! ### The own record and the CC's frames -/

/-- The own record built now (R25). -/
def State.ownRecord (s : State) : RollRecord :=
  ownRecordOf s.straps s.endA.status s.endB.status s.cc.ownCab

/-- The own ROLL is queued (R24, R25, R62). -/
def State.submitRoll (s : State) : State :=
  s.setLau (s.lau.submitConsist (s.buildFrame .roll (rollPayload s.ownRecord)))

/-- The own TALLY is queued (R31, R62). -/
def State.submitTally (s : State) (t : Tally) : State :=
  s.setLau (s.lau.submitConsist (s.buildFrame .tally (tallyPayload t)))

/-- A record inserted into a candidate table, or put in place of the one stored for its ID (R26). -/
def putRecord (rs : List RollRecord) (r : RollRecord) : List RollRecord :=
  if rs.any (fun x => x.id = r.id) then rs.map (fun x => if x.id = r.id then r else x) else rs ++ [r]

/-! ### Ordering computation (R27 to R29) -/

/-- The own record as the candidate table holds it. -/
def State.ownCandidate (s : State) : RollRecord := (recordOf s.cc.candidates s.id).getD s.ownRecord

/-- The ordering computation starts over the chain walked from this node (R28): for a closed set that is
every record (R27), for a fragment what R29 walks. tGATHER is over. -/
def State.startOrdering (s : State) (partialFlag : Bool) : State :=
  s.setCc
    { s.cc with
      tGather := none
      ordering := some
        { chain := chainFrom s.cc.candidates s.ownCandidate
          partialFlag := partialFlag
          endsBy := s.now + Config.tORDER } }

/-- The closure test (R27). -/
def State.testClosure (s : State) : State :=
  if closed s.cc.candidates s.cc.oversize s.ownCandidate then s.startOrdering false else s

/-! ### GATHER entry (R24) -/

/-- A computation in progress is abandoned: it runs on without a result (R28). -/
def Cc.abandonOrdering (c : Cc) : Cc :=
  match c.ordering with
  | some o => { c with ordering := none, abandoned := c.abandoned ++ [o.endsBy] }
  | none => c

/-- The collections and timers at GATHER entry (R24 steps 1, 4 and 5; R41 discards the candidate order). -/
def Cc.clearForGather (c : Cc) (now : Time) : Cc :=
  { c with
    formState := .gather
    candidates := []
    earlyTallies := []
    agreement := []
    oversize := false
    candidateOrder := none
    tallyRepeat := none
    tTally := none
    rollRepeat := some (now + Config.tROLL)
    tGather := some (now + Config.tGATHER)
    table := { c.table with stale := true } }

/-- The own record goes into the candidate table (R24 step 2, R25). -/
def State.insertOwnRecord (s : State) : State :=
  s.setCc { s.cc with candidates := putRecord s.cc.candidates s.ownRecord }

/-- GATHER entry (R24). -/
def State.enterGather (s : State) : State :=
  ((s.setCc (s.cc.clearForGather s.now)).insertOwnRecord.submitRoll).testClosure

/-- The notice and the counts of leaving a state for GATHER (R18 steps 3 and 4, R19 step 4, R23, R39). -/
def State.leaveForGather (s : State) (reason : LeftReason) : State :=
  match s.cc.formState with
  | .formed => s.post (.formationLeft reason)
  | .solo => (s.post (.formationLeft reason)).setCc { s.cc with failedCount := 0 }
  | .start => s.setCc { s.cc with tStart := none }
  | .gather | .tally => s

/-- The DCU and the HSU are told that the node is no longer FORMED (R23, R144, R166). -/
def State.tellLeft (s : State) (wasFormed : Bool) : State :=
  if wasFormed then s.dcuLeaveFormed.hsuLeaveFormed else s

/-- The REFORM of a new formation is placed in the REFORM slot (R19 step 3, R59). -/
def State.submitReform (s : State) (reason : ReformReason) : State :=
  s.setLau (s.lau.submitReform (s.buildFrame .reform [reasonCode reason]))

/-- The CC takes a formation number, abandoning a computation in progress (R18, R19). -/
def State.takeNumber (s : State) (n : FormationNumber) : State :=
  s.setCc { s.cc.abandonOrdering with number := n }

/-- Starting a formation (R19). -/
def State.startFormation (s : State) (reason : ReformReason) : State :=
  (((((s.takeNumber (s.cc.number + 1)).submitReform reason).leaveForGather (.reformed reason)).enterGather).tellLeft
    s.isFormed)

/-- Adoption of a newer number (R18). -/
def State.adopt (s : State) (n : FormationNumber) (reason : LeftReason) : State :=
  (((s.takeNumber n).leaveForGather reason).enterGather).tellLeft s.isFormed

/-! ### Sightings (R17) -/

/-- An adoption's FORMATION_LEFT reason: the REFORM's reason code when it carries a valid one, else ADOPTED
(R23, R189). -/
def Frame.leftReason (f : Frame) : LeftReason :=
  match f.reformReason with
  | some r => .reformed r
  | none => .adopted

/-- A member is heard (R52). -/
def ConsistTable.hear (t : ConsistTable) (id : NodeId) (now : Time) : ConsistTable :=
  { t with
    entries := t.entries.map
      (fun e => if e.member.id = id then { e with silent := false, lastHeard := now } else e) }

def State.hearMember (s : State) (id : NodeId) (p : Nat) : State :=
  let wasSilent := (s.cc.table.entryAt p).any (fun e => e.silent)
  let s := s.setCc { s.cc with table := s.cc.table.hear id s.now }
  if wasSilent then s.post (.memberHeard p) else s

/-- A sighting of an equal number (R17, R22, R52, R53): in FORMED, a member is heard, and a stranger starts
a formation unless the table is PARTIAL. -/
def State.sightEqual (s : State) (sender : NodeId) : State :=
  if s.isFormed then
    match s.cc.table.positionOf sender with
    | some p => s.hearMember sender p
    | none => if s.cc.table.partialFlag then s else s.startFormation .stranger
  else s

/-- A sighting (R17). -/
def State.sight (s : State) (f : Frame) : State :=
  if isNewer f.number s.cc.number then s.adopt f.number f.leftReason
  else if f.number = s.cc.number then s.sightEqual f.sender
  else s

/-! ### FORMED entry (R36, R49, R50) -/

/-- The committed table (R49). -/
def commitTable (o : CandidateOrder) (now : Time) : ConsistTable :=
  { entries := o.members.map (fun m => { member := m, silent := false, lastHeard := now })
    stale := false
    partialFlag := o.partialFlag }

/-- The own cab state and the notice after a commit (R50). Outside the five rows of R50, which do not occur,
the own cab state follows the entry without a notice (log entry 15). -/
def cabAfterCommit (own : OwnCab) (entry : CabResult) : OwnCab × Option Notice :=
  match own, entry with
  | .noClaim, .noCab => (.noClaim, none)
  | .requested, .active => (.active, some .cabGranted)
  | .active, .active => (.active, none)
  | .requested, .denied => (.noClaim, some .cabDenied)
  | .active, .denied => (.noClaim, some .cabLost)
  | .noClaim, .active => (.active, none)
  | .noClaim, .denied => (.noClaim, none)
  | .requested, .noCab | .active, .noCab => (.noClaim, none)

/-- The cab state of the own entry of a table. -/
def State.ownEntryCab (s : State) : CabResult :=
  match s.cc.table.entryAt s.ownPosition with
  | some e => e.member.cab
  | none => .noCab

/-- The own cab state follows the committed table (R36 step 5, R50). -/
def State.followCab (s : State) : State :=
  let r := cabAfterCommit s.cc.ownCab s.ownEntryCab
  let s := s.setCc { s.cc with ownCab := r.1 }
  match r.2 with
  | some n => s.post n
  | none => s

/-- The commit (R36 steps 1 to 4, R49). -/
def Cc.commit (c : Cc) (o : CandidateOrder) (now : Time) : Cc :=
  { c with
    formState := .formed
    table := commitTable o now
    failedCount := 0
    tTally := none
    tallyRepeat := none
    rollRepeat := none }

/-- FORMED entry (R36). -/
def State.enterFormed (s : State) (o : CandidateOrder) : State :=
  let s := (s.setCc (s.cc.commit o s.now)).followCab
  let s := s.post (.formed s.cc.number s.cc.table.size s.ownPosition s.cc.table.partialFlag)
  s.dcuFormedEntry.hsuFormedEntry

/-- The agreement set holds all N positions (R31 step 6, R33). -/
def Cc.agreed (c : Cc) (o : CandidateOrder) : Bool :=
  ((List.range o.members.length).map (· + 1)).all (fun p => c.agreement.contains p)

/-- FORMED entry when the agreement set is complete (R31 step 6, R33, R36). -/
def State.formIfAgreed (s : State) (o : CandidateOrder) : State :=
  if s.cc.agreed o then s.enterFormed o else s

/-- A position joins the agreement set, once (R33). -/
def Cc.agree (c : Cc) (p : Nat) : Cc :=
  if c.agreement.contains p then c else { c with agreement := c.agreement ++ [p] }

/-! ### SOLO (R37, R38) -/

/-- The orientation and cab state of the own entry of the SOLO table (R37 step 4). -/
def soloMember (st : Straps) (r : RollRecord) (cab : OwnCab) : Member :=
  if cab = .active then
    Member.ofRecord r (if st.coachType.isCab then st.cabEnd else .a) .active
  else Member.ofRecord r .a .noCab

/-- The SOLO table is written whole (R37 steps 4 and 5, R38, R48). Model choice: the last-heard time of its one
entry, which these rules do not give, is the moment of the write (log entry 26). -/
def State.writeSoloTable (s : State) : State :=
  s.setCc
    { s.cc with
      table :=
        { entries :=
            [{ member := soloMember s.straps s.ownRecord s.cc.ownCab, silent := false, lastHeard := s.now }]
          stale := false
          partialFlag := true } }

/-- An own claim in a consist of one (R37 step 3). -/
def State.soloCab (s : State) : State :=
  match s.cc.ownCab with
  | .noClaim | .active => s
  | .requested => (s.setCc { s.cc with ownCab := .active }).post .cabGranted

/-- SOLO entry (R37). -/
def State.enterSolo (s : State) : State :=
  let s := s.setCc
    { s.cc with
      formState := .solo
      rollRepeat := none
      tallyRepeat := none
      tGather := none
      tTally := none
      candidates := s.cc.candidates.filter (fun r => r.id = s.id)
      earlyTallies := []
      agreement := []
      candidateOrder := none }
  ((s.soloCab.writeSoloTable).post .soloEntered).stagger 1 1

/-! ### TALLY (R31 to R35) -/

/-- A formation fails (R35). -/
def State.failFormation (s : State) (reason : ReformReason) : State :=
  let s := s.count .failedFormations
  let s := s.setCc { s.cc with failedCount := s.cc.failedCount + 1 }
  if Config.failLimit ≤ s.cc.failedCount then s.enterSolo else s.startFormation reason

/-- The early tallies of members that do not match the own TALLY (R31 step 5). -/
def earlyMismatch (o : CandidateOrder) (ts : List EarlyTally) : Bool :=
  ts.any (fun t => (o.positionOf t.sender).isSome && t.tally ≠ o.tally)

/-- Every early tally of a member joins the agreement set (R31 step 5). -/
def Cc.agreeEarly (c : Cc) (o : CandidateOrder) : Cc :=
  (c.earlyTallies.foldl (fun c t => match o.positionOf t.sender with | some p => c.agree p | none => c) c)

/-- The CC's own values at TALLY entry (R31 steps 1, 2 and 4). -/
def Cc.forTally (c : Cc) (o : CandidateOrder) (own : NodeId) (now : Time) : Cc :=
  { c with
    formState := .tally
    ordering := none
    candidateOrder := some o
    agreement := (o.positionOf own).toList
    tallyRepeat := some (now + Config.tTREP)
    tTally := some (now + Config.tTALLY) }

/-- TALLY entry (R31). -/
def State.enterTally (s : State) (o : CandidateOrder) : State :=
  let s := (s.setCc (s.cc.forTally o s.id s.now)).submitTally o.tally
  if earlyMismatch o s.cc.earlyTallies then s.failFormation .mismatch
  else (s.setCc { s.cc.agreeEarly o with earlyTallies := [] }).formIfAgreed o

/-- A TALLY kept while gathering (R32). -/
def putEarly (ts : List EarlyTally) (t : EarlyTally) : List EarlyTally :=
  if ts.any (fun x => x.sender = t.sender) then ts.map (fun x => if x.sender = t.sender then t else x)
  else if ts.length < Config.earlyTallyCap then ts ++ [t] else ts

/-- A TALLY compared with the own one (R33). -/
def State.compareTally (s : State) (sender : NodeId) (t : Tally) : State :=
  match s.cc.candidateOrder with
  | some o =>
    match o.positionOf sender with
    | some p =>
      if t = o.tally then (s.setCc (s.cc.agree p)).formIfAgreed o else s.failFormation .mismatch
    | none => s
  | none => s

/-- A TALLY taken by the CC (R16, R32, R33, R38, R189). -/
def State.takeTally (s : State) (f : Frame) : State :=
  match tallyOf f.payload with
  | none => s
  | some t =>
    match s.cc.formState with
    | .gather => s.setCc { s.cc with earlyTallies := putEarly s.cc.earlyTallies { sender := f.sender, tally := t } }
    | .tally => s.compareTally f.sender t
    | .start | .formed | .solo => s

/-- A ROLL taken in GATHER (R26). -/
def State.gatherRoll (s : State) (r : RollRecord) : State :=
  if (recordOf s.cc.candidates r.id).isSome ∨ s.cc.candidates.length < Config.candidateCap then
    let s := s.setCc { s.cc with candidates := putRecord s.cc.candidates r }
    if s.cc.ordering.isSome then s else s.testClosure
  else if s.cc.oversize then s
  else (s.setCc { s.cc with oversize := true }).post .candidateOverflow

/-- A ROLL compared with the stored record (R34). -/
def State.compareRoll (s : State) (r : RollRecord) : State :=
  match recordOf s.cc.candidates r.id with
  | some stored => if stored = r then s else s.startFormation .rollChanged
  | none => s

/-- A ROLL taken by the CC (R16, R26, R34, R38, R189). -/
def State.takeRoll (s : State) (f : Frame) : State :=
  match rollOf f.sender f.payload with
  | none => s
  | some r =>
    match s.cc.formState with
    | .gather => s.gatherRoll r
    | .tally | .formed => s.compareRoll r
    | .start | .solo => s

/-! ### The CC's own events -/

/-- The moment at which tSTART runs out in START (R16). -/
def State.startOccasion (s : State) : Option Time := if s.cc.formState = .start then s.cc.tStart else none

/-- TSTART_EXPIRY (R16). -/
def execTstartExpiry (s : State) : Host.Outcome State Fault Refusal :=
  .next (s.onOccasion s.startOccasion fun s =>
    s.startFormation .start)

/-- The ROLL repeat runs on from the moment it ran out (R25). -/
def State.restartRoll (s : State) : State :=
  s.setCc { s.cc with rollRepeat := s.cc.rollRepeat.map (· + Config.tROLL) }

/-- The own record built again in GATHER before closure replaces the one in the candidate table, and the
closure test is made again (R25). Once an ordering computation has started, the table stays (R28; log entry 16). -/
def State.renewOwnRecord (s : State) : State :=
  if s.cc.formState = .gather ∧ s.cc.ordering.isNone then s.insertOwnRecord.testClosure else s

/-- The moment at which the ROLL repeat runs out, in GATHER or TALLY (R25). -/
def State.rollOccasion (s : State) : Option Time :=
  match s.cc.formState with
  | .gather | .tally => s.cc.rollRepeat
  | .start | .formed | .solo => none

/-- ROLL_REPEAT (R25). -/
def execRollRepeat (s : State) : Host.Outcome State Fault Refusal :=
  .next (s.onOccasion s.rollOccasion fun s => s.restartRoll.submitRoll.renewOwnRecord)

/-- The moment at which tGATHER runs out in GATHER (R29). -/
def State.gatherOccasion (s : State) : Option Time := if s.cc.formState = .gather then s.cc.tGather else none

/-- GATHER_TIMEOUT (R29). -/
def execGatherTimeout (s : State) : Host.Outcome State Fault Refusal :=
  .next (s.onOccasion s.gatherOccasion fun s =>
    s.startOrdering true)

/-- The end of the computation that has run longest (R28; log entry 9): the result of an abandoned one is
discarded; else the CC enters TALLY. -/
def State.endOrdering (s : State) : State :=
  match s.cc.abandoned, s.cc.ordering with
  | _ :: rest, _ => s.setCc { s.cc with abandoned := rest }
  | [], some o => s.enterTally (computeOrder o.chain o.partialFlag)
  | [], none => s

/-- ORDERING_END (R28): the end may come at any moment of the computation (log entry 8). -/
def execOrderingEnd (s : State) : Host.Outcome State Fault Refusal :=
  .next (s.inService State.endOrdering)

/-- The moment at which the TALLY repeat runs out in TALLY (R31). -/
def State.tallyRepeatOccasion (s : State) : Option Time :=
  if s.cc.formState = .tally then s.cc.tallyRepeat else none

/-- TALLY_REPEAT (R31). -/
def execTallyRepeat (s : State) : Host.Outcome State Fault Refusal :=
  .next (s.onOccasion s.tallyRepeatOccasion fun s =>
    match s.cc.candidateOrder with
    | some o =>
      (s.setCc { s.cc with tallyRepeat := s.cc.tallyRepeat.map (· + Config.tTREP) }).submitTally o.tally
    | none => s)

/-- The moment at which tTALLY runs out in TALLY (R35). -/
def State.tallyOccasion (s : State) : Option Time := if s.cc.formState = .tally then s.cc.tTally else none

/-- TALLY_TIMEOUT (R35). -/
def execTallyTimeout (s : State) : Host.Outcome State Fault Refusal :=
  .next (s.onOccasion s.tallyOccasion fun s =>
    s.failFormation .timeout)

/-- The moment at which the member at a position has been silent for tSILENT (R51). -/
def State.silentOccasion (s : State) (p : Nat) : Option Time :=
  if s.isFormed ∧ p ≠ s.ownPosition then
    match s.cc.table.entryAt p with
    | some e => if e.silent then none else some (e.lastHeard + Config.tSILENT)
    | none => none
  else none

/-- The SILENT flag of a position is set (R51). -/
def ConsistTable.silence (t : ConsistTable) (p : Nat) : ConsistTable :=
  { t with entries := t.entries.modify (p - 1) (fun e => { e with silent := true }) }

/-- MEMBER_SILENT (R51). -/
def execMemberSilent (position : Nat) (s : State) : Host.Outcome State Fault Refusal :=
  .next (s.onOccasion (s.silentOccasion position) fun s =>
    (s.setCc { s.cc with table := s.cc.table.silence position }).post (.memberSilent position))

/-! ### Requests (R21, R38, R173) -/

/-- REFORM (R21): always answered OK. -/
def execReform (s : State) : Host.Outcome State Fault Refusal :=
  .next (s.onRequest .reform fun s => (s.startFormation .request, answer .ok))

/-- An accepted CAB request (R21, R38). -/
def State.acceptCab (s : State) (claim : Bool) : State :=
  match s.cc.formState, claim with
  | .solo, true => ((s.setCc { s.cc with ownCab := .active }).writeSoloTable).post .cabGranted
  | .solo, false => (s.setCc { s.cc with ownCab := .noClaim }).writeSoloTable
  | .start, true | .gather, true | .tally, true | .formed, true =>
    (s.setCc { s.cc with ownCab := .requested }).startFormation .cab
  | .start, false | .gather, false | .tally, false | .formed, false =>
    (s.setCc { s.cc with ownCab := .noClaim }).startFormation .cab

/-- The CAB request as its argument byte has it, in the order of checks of R173. -/
def State.cabRequest (s : State) (code : Byte) : State × List Byte :=
  match claimOf code with
  | none => (s, answer .badValue)
  | some claim =>
    if !s.straps.coachType.isCab then (s, answer .notCabType)
    else if claim = true ∧ s.cc.ownCab ≠ .noClaim then (s, answer .alreadyClaimed)
    else if claim = false ∧ s.cc.ownCab = .noClaim then (s, answer .notClaimed)
    else (s.acceptCab claim, answer .ok)

/-- CAB_CLAIM (R173). -/
def execCabClaim (code : Byte) (s : State) : Host.Outcome State Fault Refusal :=
  .next (s.onRequest (.cabClaim code) fun s => s.cabRequest code)

/-- CAB_RELEASE (R173). -/
def execCabRelease (code : Byte) (s : State) : Host.Outcome State Fault Refusal :=
  .next (s.onRequest (.cabRelease code) fun s => s.cabRequest code)

end Sys2Proof.Machine
end

