-- ==== Sys2Proof/Machine/EndLinks.lean ====
section
/-! DEFINITION. The two end links (chapter 1): contact debounce, end states, beacons, neighbour records, and
the adjacency changes they report to the CC. -/

namespace Sys2Proof.Machine

/-- An end link reports an adjacency change to the CC, which starts a formation with reason COUPLING in every
state but START (R10, R16, R20). -/
def State.reportAdjacency (s : State) : State :=
  match s.cc.formState with
  | .start => s
  | .gather | .tally | .formed | .solo => s.startFormation .coupling

/-- A receiver that begins listening, its conductor counted as idle from now on (R1). -/
def EndReceiver.startListening (now : Time) : EndReceiver := { quietFrom := now, phase := .waiting }

/-- An end beacon is put on the transmit conductor (R4, R5). -/
def EndLink.send (l : EndLink) (id : NodeId) (e : CoachEnd) (now : Time) : EndLink :=
  { l with sending := some { bytes := beaconOf id e, startedAt := now, chars := Config.beaconChars } }

/-- A beacon being sent is cut off after the character in progress (R3, R13): at `now` that many of its
characters have begun. A beacon that is out already keeps its six. -/
def EndLink.cutBeacon (l : EndLink) (now : Time) : EndLink :=
  { l with
    sending := l.sending.map (fun b =>
      { b with
        chars := min b.chars ((now - b.startedAt) * Config.beaconChars / Config.tEBCN + 1) }) }

/-! ### Contact sense (R2) -/

/-- The raw contact level of an end. -/
def Pins.setContact (p : Pins) (e : CoachEnd) (level : Bool) : Pins :=
  match e with
  | .a => { p with contactA := level }
  | .b => { p with contactB := level }

/-- A raw level reaches the debounce (R2). -/
def EndLink.debounceRaw (l : EndLink) (level : Bool) (now : Time) : EndLink :=
  { l with
    debounce := if level = l.debounced then none else some (l.debounce.getD (now + Config.tCONTACT)) }

/-- RAW_CONTACT_CHANGE (R2). The pin has its level in external reset too. -/
def execRawContactChange (e : CoachEnd) (level : Bool) (s : State) : Host.Outcome State Fault Refusal :=
  .next ((s.setPins (s.pins.setContact e level)).inService fun s =>
    s.setEnd e ((s.endLink e).debounceRaw level s.now))

/-- The moment at which the debounce of an end completes at a level (R2). -/
def State.debounceOccasion (s : State) (e : CoachEnd) (level : Bool) : Option Time :=
  if (s.endLink e).debounced = level then none else (s.endLink e).debounce

/-- DEBOUNCED_CONTACT_ACTIVE (R4): COUPLED, listening, the first beacon sent and the schedule started. -/
def execDebouncedContactActive (e : CoachEnd) (s : State) : Host.Outcome State Fault Refusal :=
  .next (s.onOccasion (s.debounceOccasion e true) fun s =>
    let l := { s.endLink e with
      debounced := true, debounce := none, state := .coupled, neighbour := none, loss := none
      beacon := some (s.now + Config.tBEACON), rx := EndReceiver.startListening s.now }
    s.setEnd e (l.send s.id e s.now))

/-- DEBOUNCED_CONTACT_LOST (R3): OPEN, a partly received beacon discarded uncounted, and the change reported.
Model choice: a reception that is faulty already and waits for its tEGAP of idle is dropped uncounted too, which
R1 leaves open (log entry 28). -/
def execDebouncedContactLost (e : CoachEnd) (s : State) : Host.Outcome State Fault Refusal :=
  .next (s.onOccasion (s.debounceOccasion e false) fun s =>
    let l := { (s.endLink e).cutBeacon s.now with
      debounced := false, debounce := none, state := .openEnd, neighbour := none, loss := none
      beacon := none, rx := EndReceiver.startListening 0 }
    (s.setEnd e l).reportAdjacency)

/-! ### Beacons (R5 to R9) -/

/-- The receiver of an end listens in COUPLED and PAIRED (R1). -/
def EndLink.listening (l : EndLink) : Bool := l.state ≠ .openEnd

/-- The moment at which the next beacon of a COUPLED or PAIRED end is due (R5). -/
def State.beaconOccasion (s : State) (e : CoachEnd) : Option Time :=
  if (s.endLink e).listening then (s.endLink e).beacon else none

/-- END_BEACON_SEND (R5): the schedule runs on from the moment at which the beacon was due. -/
def execEndBeaconSend (e : CoachEnd) (s : State) : Host.Outcome State Fault Refusal :=
  .next (s.onOccasion (s.beaconOccasion e) fun s =>
    let l := { s.endLink e with beacon := (s.endLink e).beacon.map (· + Config.tBEACON) }
    s.setEnd e (l.send s.id e s.now))

/-- A valid beacon sets the neighbour record and starts the loss timer (R7, R8). -/
def EndLink.pair (l : EndLink) (n : Neighbour) (now : Time) : EndLink :=
  { l with state := .paired, neighbour := some n, loss := some (now + Config.tBLOSS) }

/-- A valid beacon at a listening end (R7, R8): a refresh of the record it names, or a new neighbour, which
is reported. -/
def State.takeBeacon (s : State) (e : CoachEnd) (n : Neighbour) : State :=
  let l := s.endLink e
  let t := s.setEnd e (l.pair n s.now)
  if l.state = .paired ∧ l.neighbour = some n then t else t.reportAdjacency

/-! ### The receiver (R1, R6) -/

/-- What a character makes of a reception, and the six bytes when it completes a beacon (R1). A character begins
a beacon only after tEGAP of idle. Model choice: one that comes before, when no beacon has been seen since
listening began, only ends the idle time (log entry 31). -/
def EndReceiver.take (r : EndReceiver) (c : LineChar) : EndReceiver × Option (List Byte) :=
  let next (p : ReceiverPhase) : EndReceiver := { quietFrom := c.start + Config.tECHR, phase := p }
  if c.stop = false then (next .discarding, none)
  else if r.quietFrom + Config.tEGAP ≤ c.start then (next (.assembling [charByte c]), none)
  else
    match r.phase with
    | .waiting => (next .waiting, none)
    | .assembling bytes =>
      if bytes.length + 1 = Config.beaconChars then (next .afterBeacon, some (bytes ++ [charByte c]))
      else (next (.assembling (bytes ++ [charByte c])), none)
    | .afterBeacon | .discarding => (next .discarding, none)

/-- The moment at which a reception in progress turns out faulty: the conductor idle for tEGAP after one to five
characters of a beacon, or after the characters that the receiver discards (R1). -/
def EndReceiver.faultAt (r : EndReceiver) : Option Time :=
  match r.phase with
  | .waiting | .afterBeacon => none
  | .assembling _ | .discarding => some (r.quietFrom + Config.tEGAP)

/-- That moment at a listening end. -/
def State.faultOccasion (s : State) (e : CoachEnd) : Option Time :=
  if (s.endLink e).listening then (s.endLink e).rx.faultAt else none

/-- A faulty reception is over: one beacon error, whatever its number of characters (R1, R6). -/
def State.endFaulty (s : State) (e : CoachEnd) : State :=
  (s.setEnd e { s.endLink e with rx := { (s.endLink e).rx with phase := .waiting } }).count .beaconErrors

/-- A faulty reception that was over before a moment is ended first. -/
def State.endFaultyBy (s : State) (e : CoachEnd) (t : Time) : State :=
  match s.faultOccasion e with
  | some f => if f ≤ t then (s.advanceTo f).endFaulty e else s
  | none => s

/-- A complete beacon is checked, and acts or is a beacon error (R6 to R8). -/
def State.arriveBeacon (s : State) (e : CoachEnd) (bytes : List Byte) : State :=
  match checkBeacon s.id (beaconFields bytes) with
  | some n => s.takeBeacon e n
  | none => s.count .beaconErrors

/-- A character comes to an end's receiver (R1). It has no effect at an OPEN end, or when it began before the
receiver began listening. Its moment is the end of its stop bit. -/
def State.receiveChar (s : State) (e : CoachEnd) (c : LineChar) : State :=
  if (s.endLink e).listening = false ∨ c.start < (s.endLink e).rx.quietFrom then s
  else
    let s := (s.endFaultyBy e c.start).advanceTo (c.start + Config.tECHR)
    let r := (s.endLink e).rx.take c
    let s := s.setEnd e { s.endLink e with rx := r.1 }
    match r.2 with
    | some bytes => s.arriveBeacon e bytes
    | none => s

def State.receiveChars (s : State) (e : CoachEnd) (chars : List LineChar) : State :=
  chars.foldl (fun s c => s.receiveChar e c) s

/-- END_BEACON_ARRIVAL (R6): the characters up to the one that completes the beacon. Characters that complete
none only reach the receiver (log entry 31). -/
def execEndBeaconArrival (e : CoachEnd) (chars : List LineChar) (s : State) : Host.Outcome State Fault Refusal :=
  .next (s.inService fun s => s.receiveChars e chars)

/-- FAULTY_RECEPTION (R1, R6): tEGAP of idle ends a reception that no beacon came of. -/
def execFaultyReception (e : CoachEnd) (s : State) : Host.Outcome State Fault Refusal :=
  .next (s.onOccasion (s.faultOccasion e) fun s => s.endFaulty e)

/-- The moment at which the loss timer of a PAIRED end runs out (R9). -/
def State.lossOccasion (s : State) (e : CoachEnd) : Option Time :=
  if (s.endLink e).state = .paired then (s.endLink e).loss else none

/-- BEACON_LOSS (R9): COUPLED again, and the change is reported. -/
def execBeaconLoss (e : CoachEnd) (s : State) : Host.Outcome State Fault Refusal :=
  .next (s.onOccasion (s.lossOccasion e) fun s =>
    (s.setEnd e { s.endLink e with state := .coupled, neighbour := none, loss := none }).reportAdjacency)

end Sys2Proof.Machine
end

