-- ==== Sys2Proof/Machine/DoorLeaf.lean ====
section
/-! DEFINITION. The Door Leaf Controller (chapter 7): commands, the close sequence, the CL watches, faults,
recovery, isolation, and the leaf channels' events. -/

namespace Sys2Proof.Machine

/-- What a leaf's passage does to its timer channel (R119). -/
inductive ChannelOrder where
  | keep
  | stop
  | start (a b : Nat)
deriving DecidableEq, Repr

/-- The start of a run that has its A-match there (R99). -/
def ChannelOrder.matchesAtStart : ChannelOrder → Bool
  | .keep | .stop => false
  | .start a b => Machine.matchesAtStart a b

def Otb.order (o : Otb) (now : Time) (i : Nat) : ChannelOrder → Otb
  | .keep => o
  | .stop => o.modify i Channel.stopRun
  | .start a b => o.modify i (fun c => c.startRun now a b)

/-! ### Passages of one leaf -/

/-- RELEASE at a leaf (R111). -/
def Leaf.release (l : Leaf) : Leaf × ChannelOrder :=
  match l.state with
  | .locked => ({ l with state := .released, watch := none }, .keep)
  | .closingWarn | .closingDrive | .reopen => ({ l with state := .released, watch := none }, .stop)
  | .released | .fault | .isolated => (l, .keep)

/-- CLOSING_WARN entry (R113). -/
def Leaf.enterWarn (l : Leaf) : Leaf × ChannelOrder :=
  ({ l with state := .closingWarn, reason := none, obstructions := 0, watch := none },
   .start Config.closeA Config.closeB)

/-- CLOSE at a leaf (R112). -/
def Leaf.close (l : Leaf) : Leaf × ChannelOrder :=
  match l.state with
  | .released | .fault => l.enterWarn
  | .locked | .closingWarn | .closingDrive | .reopen | .isolated => (l, .keep)

/-- LOCKED entry: the CL watch is the unlock watch (R120). -/
def Leaf.enterLocked (l : Leaf) (now : Time) : Leaf :=
  { l with state := .locked, reason := none, watch := if l.cl then none else some now }

/-- The record at FAULT entry (R121 steps 2 and 5): the CL watch is the recovery watch (R122). -/
def Leaf.enterFault (l : Leaf) (now : Time) (r : FaultReason) : Leaf :=
  { l with state := .fault, reason := some r, watch := if l.cl then some now else none }

/-- ISOLATED entry (R123). -/
def Leaf.isolate (l : Leaf) : Leaf :=
  { l with state := .isolated, reason := none, obstructions := 0, watch := none }

/-- The CL watch after a change of the filtered CL (R115, R120, R122). -/
def Leaf.watchAfterCl (l : Leaf) (now : Time) : Option Time :=
  match l.state with
  | .closingDrive | .fault => if l.cl then some now else none
  | .locked => if l.cl then none else some now
  | .released | .closingWarn | .reopen | .isolated => l.watch

/-! ### Leaves in the state -/

def State.leaf? (s : State) (i : Nat) : Option Leaf := s.dlc.leaves.find? (fun l => l.index = i)

/-- Write a leaf record back. -/
def Dlc.put (d : Dlc) (l : Leaf) : Dlc :=
  { d with leaves := d.leaves.map (fun x => if x.index = l.index then l else x) }

/-- A leaf takes a new record and its channel an order, in one event. -/
def State.putLeaf (s : State) (l : Leaf) (o : ChannelOrder) : State :=
  (s.setDlc (s.dlc.put l)).setOtb (s.otb.order s.now l.index o)

/-- FAULT entry, all steps of R121. -/
def State.faultLeaf (s : State) (l : Leaf) (r : FaultReason) : State :=
  (((s.putLeaf (l.enterFault s.now r) .stop).count .leafFaults).post (.leafFault l.index r)).settleLeaves

/-- An obstruction (R116). Its run has A = 2000, so the start hands no A-match (R99). -/
def State.obstructLeaf (s : State) (l : Leaf) : State :=
  let l := { l with watch := none, obstructions := l.obstructions + 1 }
  if l.obstructions < Config.obsLimit then
    (s.putLeaf { l with state := .reopen } (.start Config.reopenA Config.reopenB)).settleLeaves
  else s.faultLeaf l .obstructed

/-- CLOSING_DRIVE entry at an A-match (R114). DRV and WARN follow from the leaf states (R109). -/
def State.enterDrive (s : State) (l : Leaf) : State :=
  let l := { l with state := .closingDrive, watch := if l.cl then some s.now else none }
  if l.ob then s.obstructLeaf l else (s.putLeaf l .keep).settleLeaves

/-! ### Channel events -/

/-- The A-match handed to the DLC (R114). -/
def State.takeAMatch (s : State) (i : Nat) : State :=
  match s.leaf? i with
  | some l =>
    match l.state with
    | .closingWarn | .reopen => s.enterDrive l
    | .locked | .released | .closingDrive | .fault | .isolated => s
  | none => s

/-- A_MATCH (R99): the output becomes active and the event is handed. -/
def execAMatch (channel : Nat) (s : State) : Host.Outcome State Fault Refusal :=
  .next (s.onOccasion (s.leafChannelOccasion channel Channel.aMatchAt) fun s =>
    (s.setOtb (s.otb.modify channel fun c => { c with output := true })).takeAMatch channel)

/-- The B-match handed to the DLC (R118). -/
def State.takeBMatch (s : State) (i : Nat) : State :=
  match s.leaf? i with
  | some l =>
    match l.state with
    | .closingDrive => s.faultLeaf l .lockTimeout
    | .locked | .released | .closingWarn | .reopen | .fault | .isolated => s
  | none => s

/-- B_MATCH (R99): the channel enters OFF and the event is handed. -/
def execBMatch (channel : Nat) (s : State) : Host.Outcome State Fault Refusal :=
  .next (s.onOccasion (s.leafChannelOccasion channel Channel.bMatchAt) fun s =>
    (s.setOtb (s.otb.modify channel Channel.stopRun)).takeBMatch channel)

/-! ### Leaf commands (R110) -/

/-- The A-matches that the starts of an event hand to the DLC (R99), each taken at its leaf. -/
def State.takeStartMatches (s : State) (orders : List (Nat × ChannelOrder)) : State :=
  orders.foldl (fun s x => if x.2.matchesAtStart then s.takeAMatch x.1 else s) s

/-- A passage applied to every present leaf of the named sides, with its order to the leaf's channel. -/
def State.passLeaves (s : State) (sides : List Side) (passage : Leaf → Leaf × ChannelOrder) : State :=
  let named (l : Leaf) : Bool := sides.contains (leafSide l.index)
  (s.setDlc { s.dlc with leaves := s.dlc.leaves.map (fun l => if named l then (passage l).1 else l) }).setOtb
    (s.dlc.leaves.foldl (fun o l => if named l then o.order s.now l.index (passage l).2 else o) s.otb)

/-- A command's passage at every present leaf of the named sides, in one event. A run that starts with its
A-match hands it with the start (R99). -/
def State.onLeaves (s : State) (sides : List Side) (passage : Leaf → Leaf × ChannelOrder) : State :=
  (s.passLeaves sides passage).settleLeaves.takeStartMatches
    ((s.dlc.leaves.filter (fun l => sides.contains (leafSide l.index))).map (fun l => (l.index, (passage l).2)))

/-- A RELEASE handed to the DLC with the formation number of its acceptance (R110, R111). -/
def State.releaseLeaves (s : State) (sides : List Side) (number : FormationNumber) : State :=
  if s.isFormed ∧ number = s.cc.number then s.onLeaves sides Leaf.release else s

/-- A CLOSE handed to the DLC (R110, R112). -/
def State.closeLeaves (s : State) (sides : List Side) : State := s.onLeaves sides Leaf.close

/-! ### Inputs (R108) -/

/-- A raw level reaches one input's filter: a departure from the filtered level starts tINF, a return
cancels the pending change, and a level that holds leaves the filter as it runs (R108). -/
def filterAfter (filtered level : Bool) (pending : Option Time) (now : Time) : Option Time :=
  if level = filtered then none
  else some (pending.getD (now + Config.tINF))

/-- The raw level of a leaf input pin. -/
def Pins.setLeafInput (p : Pins) (i : Nat) (input : LeafInput) (level : Bool) : Pins :=
  match input with
  | .cl => { p with cl := p.cl.set i level }
  | .ob => { p with ob := p.ob.set i level }

def Leaf.filterRaw (l : Leaf) (input : LeafInput) (level : Bool) (now : Time) : Leaf :=
  match input with
  | .cl => { l with clFilter := filterAfter l.cl level l.clFilter now }
  | .ob => { l with obFilter := filterAfter l.ob level l.obFilter now }

/-- RAW_LEAF_INPUT_CHANGE (R108). The pin has its level in external reset too; an absent leaf's input is
not read (R107). -/
def execRawLeafInputChange (leaf : Nat) (input : LeafInput) (level : Bool) (s : State) :
    Host.Outcome State Fault Refusal :=
  .next ((s.setPins (s.pins.setLeafInput leaf input level)).inService fun s =>
    match s.leaf? leaf with
    | some l => s.setDlc (s.dlc.put (l.filterRaw input level s.now))
    | none => s)

/-- The pending change of a filter. -/
def Leaf.pendingFilter (l : Leaf) : LeafInput → Option Time
  | .cl => l.clFilter
  | .ob => l.obFilter

/-- The occasion of LEAF_INPUT_FILTERED: the filter of a present leaf completes. -/
def State.filterOccasion (s : State) (i : Nat) (input : LeafInput) : Option Time :=
  (s.leaf? i).bind (fun l => l.pendingFilter input)

/-- The filtered CL changes: an input event for the CL watch (R115, R120, R122). -/
def State.takeClChange (s : State) (l : Leaf) : State :=
  let l := { l with cl := !l.cl, clFilter := none }
  s.setDlc (s.dlc.put { l with watch := l.watchAfterCl s.now })

/-- The filtered OB changes: active in CLOSING_DRIVE is an obstruction (R116). -/
def State.takeObChange (s : State) (l : Leaf) : State :=
  let l := { l with ob := !l.ob, obFilter := none }
  if l.ob ∧ l.state = .closingDrive then s.obstructLeaf l else s.setDlc (s.dlc.put l)

/-- LEAF_INPUT_FILTERED (R108). -/
def execLeafInputFiltered (leaf : Nat) (input : LeafInput) (s : State) : Host.Outcome State Fault Refusal :=
  .next (s.onOccasion (s.filterOccasion leaf input) fun s =>
    match s.leaf? leaf, input with
    | some l, .cl => s.takeClChange l
    | some l, .ob => s.takeObChange l
    | none, _ => s)

/-! ### CL watch expiries -/

/-- The moment at which a leaf's CL watch reaches a time, in the state whose watch it is. -/
def State.watchOccasion (s : State) (i : Nat) (st : LeafState) (span : Time) : Option Time :=
  (s.leaf? i).bind (fun l => if l.state = st then l.watch.map (· + span) else none)

/-- LOCK_COMPLETE (R115). -/
def execLockComplete (leaf : Nat) (s : State) : Host.Outcome State Fault Refusal :=
  .next (s.onOccasion (s.watchOccasion leaf .closingDrive Config.tCLSET) fun s =>
    match s.leaf? leaf with
    | some l => (s.putLeaf (l.enterLocked s.now) .stop).settleLeaves
    | none => s)

/-- UNLOCK_FAULT (R120). -/
def execUnlockFault (leaf : Nat) (s : State) : Host.Outcome State Fault Refusal :=
  .next (s.onOccasion (s.watchOccasion leaf .locked Config.tUNLOCK) fun s =>
    match s.leaf? leaf with
    | some l => s.faultLeaf l .unlocked
    | none => s)

/-- LEAF_RECOVERY (R122). -/
def execLeafRecovery (leaf : Nat) (s : State) : Host.Outcome State Fault Refusal :=
  .next (s.onOccasion (s.watchOccasion leaf .fault Config.tRECOVER) fun s =>
    match s.leaf? leaf with
    | some l => ((s.putLeaf (l.enterLocked s.now) .keep).post (.leafRecovered leaf)).settleLeaves
    | none => s)

/-! ### Isolation (R123, R124) -/

/-- ISOLATE off at a leaf (R124). -/
def State.endIsolation (s : State) (l : Leaf) : State :=
  if l.state = .isolated then
    if l.cl then (s.putLeaf (l.enterLocked s.now) .keep).settleLeaves else s.faultLeaf l .unlocked
  else s

/-- The ISOLATE request as its two argument bytes have it (R123, R124). -/
def State.isolateRequest (s : State) (leaf onOff : Byte) : State × List Byte :=
  match onOffOf onOff, s.leaf? leaf.toNat with
  | none, _ => (s, answer .badValue)
  | some _, none => (s, answer .noLeaf)
  | some true, some l => ((s.putLeaf l.isolate .stop).settleLeaves, answer .ok)
  | some false, some l => (s.endIsolation l, answer .ok)

/-- ISOLATE_ON (R123). -/
def execIsolateOn (leaf onOff : Byte) (s : State) : Host.Outcome State Fault Refusal :=
  .next (s.onRequest (.isolateOn leaf onOff) fun s => s.isolateRequest leaf onOff)

/-- ISOLATE_OFF (R124). -/
def execIsolateOff (leaf onOff : Byte) (s : State) : Host.Outcome State Fault Refusal :=
  .next (s.onRequest (.isolateOff leaf onOff) fun s => s.isolateRequest leaf onOff)

end Sys2Proof.Machine
end

