-- ==== Sys2Proof/Machine/DoorCommand.lean ====
section
/-! DEFINITION. The Door Command Unit's commands (08 sections 8.2 and 8.3): DOOR_ISSUE, the repeat schedule,
de-duplication, and received RELEASE and CLOSE commands. -/

namespace Sys2Proof.Machine

/-! ### Repeat schedule (R132, R133) -/

/-- One more copy of an issue has ended (R132): the entry goes after its third copy, else it spaces. -/
def Issue.copyEnded (i : Issue) (now : Time) : Option Issue :=
  if Config.copies ≤ i.ended + 1 then none
  else some { i with ended := i.ended + 1, phase := .spacing (now + Config.tDREP) }

/-- Change the first entry that satisfies a test, or remove it. -/
def updateFirst (test : Issue → Bool) (f : Issue → Option Issue) : List Issue → List Issue
  | [] => []
  | i :: is =>
    if test i then
      match f i with
      | some j => j :: is
      | none => is
    else i :: updateFirst test f is

/-- The entry whose copy is a frame in the LAU (R132). -/
def Issue.owns (i : Issue) (f : Frame) : Bool := i.frame = f && i.phase = .inStore

/-- A DOORCMD copy ends with SENT, ABANDONED or LATE (R132). With no entry for it nothing happens (R145). -/
def State.copyEnded (s : State) (f : Frame) : State :=
  s.setDcu { s.dcu with
    schedule := updateFirst (fun i => i.owns f) (fun i => i.copyEnded s.now) s.dcu.schedule }

/-- A DOORCMD copy ends with STALE: its issue is voided (R133). -/
def State.copyStale (s : State) (f : Frame) : State :=
  match s.dcu.schedule.find? (fun i => i.owns f) with
  | some i =>
    (s.setDcu { s.dcu with
      schedule := updateFirst (fun i => i.owns f) (fun _ => none) s.dcu.schedule }).post (.issueVoid i.seq)
  | none => s

/-- An entry whose tDREP runs, with a sequence number. -/
def Issue.spacingFor (i : Issue) (seq : Byte) : Option Time :=
  match i.phase with
  | .spacing t => if i.seq = seq then some t else none
  | .inStore => none

/-- The occasion of DOORCMD_REPEAT. -/
def State.repeatOccasion (s : State) (seq : Byte) : Option Time :=
  s.dcu.schedule.findSome? (fun i => i.spacingFor seq)

/-- The next copy of an issue is submitted (R132): IN_STORE when stored, skipped at once on FULL. -/
def State.repeatCopy (s : State) (seq : Byte) : State :=
  match s.dcu.schedule.find? (fun i => (i.spacingFor seq).isSome) with
  | none => s
  | some i =>
    let r := s.lau.submitDoorcmd i.frame
    let after (i : Issue) : Option Issue :=
      match r.2 with
      | .stored | .replaced => some { i with phase := .inStore }
      | .full => i.copyEnded s.now
    (s.setLau r.1).setDcu { s.dcu with
      schedule := updateFirst (fun i => (i.spacingFor seq).isSome) after s.dcu.schedule }

/-- DOORCMD_REPEAT (R132). -/
def execDoorcmdRepeat (seq : Byte) (s : State) : Host.Outcome State Fault Refusal :=
  .next (s.onOccasion (s.repeatOccasion seq) fun s => s.repeatCopy seq)

/-! ### Applying a command to the own leaves (R130, R131, R135, R136) -/

/-- The own position lies in a range. -/
def State.inRange (s : State) (c : DoorCmd) : Bool :=
  decide (c.rangeFrom ≤ s.ownPosition) && decide (s.ownPosition ≤ c.rangeTo)

/-- An accepted DOOR_ISSUE applied to the own leaves (R131). -/
def State.applyIssue (s : State) (c : DoorCmd) : State :=
  match c.action with
  | .release => if s.isFormed ∧ s.inRange c then s.releaseLeaves (s.sidesOf c.side) s.cc.number else s
  | .close =>
    if s.isFormed then if s.inRange c then s.closeLeaves (s.sidesOf c.side) else s
    else s.closeLeaves [.one, .two]

/-! ### DOOR_ISSUE (R128, R129) -/

/-- Checks 3 to 5 of R128, for a RELEASE. -/
def State.releaseChecks (s : State) (rangeFrom rangeTo : Nat) : Option Result :=
  if !s.isFormed then some .notFormed
  else if s.cc.ownCab ≠ .active then some .notActiveCab
  else if 1 ≤ rangeFrom ∧ rangeFrom ≤ rangeTo ∧ rangeTo ≤ s.cc.table.size then none
  else some .badRange

/-- The limited range of a CLOSE (R129 step 3). -/
def limitRange (l rangeFrom rangeTo : Nat) : Nat × Nat :=
  let f := min (max rangeFrom 1) l
  let t := min (max rangeTo 1) l
  if t < f then (1, l) else (f, t)

/-- The range an issue's frame carries (R129 step 3). -/
def State.issueRange (s : State) (a : DoorAction) (rangeFrom rangeTo : Nat) : Nat × Nat :=
  match a with
  | .release => (rangeFrom, rangeTo)
  | .close => limitRange (if s.isFormed then s.cc.table.size else 32) rangeFrom rangeTo

/-- The command of an issue (R129 steps 1 to 4). -/
def State.issueCommand (s : State) (a : DoorAction) (side : DoorSide) (rangeFrom rangeTo : Nat) : DoorCmd :=
  let range := s.issueRange a rangeFrom rangeTo
  { seq := s.dcu.issueSeq + 1
    action := a
    side := side
    rangeFrom := range.1
    rangeTo := range.2
    issuer := if s.isFormed then BitVec.ofNat 8 s.ownPosition else 0 }

/-- An issue that passed checks 1 to 6 (R129): submitted as copy 1, and accepted when it is stored. -/
def State.issue (s : State) (c : DoorCmd) : State × List Byte :=
  let frame := s.buildFrame .doorcmd (doorCmdPayload c)
  let r := s.lau.submitDoorcmd frame
  match r.2 with
  | .full => (s, answer .queueFull)
  | .stored | .replaced =>
    let entry : Issue := { frame := frame, action := c.action, seq := c.seq, ended := 0, phase := .inStore }
    let s := (s.setLau r.1).setDcu
      { s.dcu with issueSeq := c.seq, schedule := s.dcu.schedule ++ [entry] }
    (s.applyIssue c, answer .ok ++ [c.seq])

/-- The DOOR_ISSUE request as its four argument bytes have it, in the order of checks of R128. -/
def State.doorIssue (s : State) (action side rangeFrom rangeTo : Byte) : State × List Byte :=
  match doorActionOf action, doorSideOf side with
  | some a, some d =>
    if !s.straps.coachType.isCab then (s, answer .notCabType)
    else
      match (if a = .release then s.releaseChecks rangeFrom.toNat rangeTo.toNat else none) with
      | some r => (s, answer r)
      | none =>
        if s.dcu.schedule.length < Config.scheduleCap then
          s.issue (s.issueCommand a d rangeFrom.toNat rangeTo.toNat)
        else (s, answer .queueFull)
  | _, _ => (s, answer .badRange)

/-- DOOR_ISSUE_RELEASE (R128). -/
def execDoorIssueRelease (action side rangeFrom rangeTo : Byte) (s : State) :
    Host.Outcome State Fault Refusal :=
  .next (s.onRequest (.doorIssueRelease action side rangeFrom rangeTo) fun s =>
    s.doorIssue action side rangeFrom rangeTo)

/-- DOOR_ISSUE_CLOSE (R129). -/
def execDoorIssueClose (action side rangeFrom rangeTo : Byte) (s : State) :
    Host.Outcome State Fault Refusal :=
  .next (s.onRequest (.doorIssueClose action side rangeFrom rangeTo) fun s =>
    s.doorIssue action side rangeFrom rangeTo)

/-! ### De-duplication (R134) -/

/-- A sequence number joins an entry's numbers; the oldest leaves when it held four. -/
def joinSeq (seqs : List Byte) (seq : Byte) : List Byte :=
  if seqs.length < Config.dedupSeqs then seqs ++ [seq] else seqs.drop 1 ++ [seq]

/-- The lookup of R134: whether the command is a repeat, and the table after it. The entries stand in the
order of their last use, so the head has the oldest (log entry 20). -/
def dedupLookup (ds : List DedupEntry) (issuer : NodeId) (seq : Byte) (now : Time) :
    Bool × List DedupEntry :=
  let others := ds.filter (fun d => d.issuer ≠ issuer)
  match ds.find? (fun d => d.issuer = issuer) with
  | some d =>
    if d.seqs.contains seq then (true, others ++ [{ d with lastUse := now }])
    else (false, others ++ [{ d with seqs := joinSeq d.seqs seq, lastUse := now }])
  | none =>
    let entry : DedupEntry := { issuer := issuer, seqs := [seq], lastUse := now }
    if ds.length < Config.dedupCap then (false, ds ++ [entry]) else (false, ds.drop 1 ++ [entry])

/-! ### Received commands (R135, R136) -/

/-- A refused RELEASE (R135): counted, then posted. -/
def State.refuseRelease (s : State) (issuer : Byte) (r : RefusalReason) : State :=
  (s.count .doorRefusals).post (.doorRefused issuer r)

/-- A RELEASE that is not a repeat (R135). -/
def State.receiveRelease (s : State) (sender : NodeId) (c : DoorCmd) : State :=
  if !s.isFormed then s.refuseRelease c.issuer .notFormed
  else if s.cc.table.activeCab ≠ some sender then s.refuseRelease c.issuer .notCommandingCab
  else if s.inRange c then s.releaseLeaves (s.sidesOf c.side) s.cc.number
  else s

/-- A CLOSE that is not a repeat (R136). -/
def State.receiveClose (s : State) (number : FormationNumber) (c : DoorCmd) : State :=
  if s.isFormed then
    if number = s.cc.number then if s.inRange c then s.closeLeaves (s.sidesOf c.side) else s
    else s.closeLeaves (s.sidesOf c.side)
  else s.closeLeaves [.one, .two]

/-- A DOORCMD taken by the DCU (R134 to R136, R189). -/
def State.takeDoorcmd (s : State) (f : Frame) : State :=
  match doorCmdOf f.payload with
  | none => s
  | some c =>
    let r := dedupLookup s.dcu.dedup f.sender c.seq s.now
    let s := s.setDcu { s.dcu with dedup := r.2 }
    if r.1 then s
    else
      match c.action with
      | .release => s.receiveRelease f.sender c
      | .close => s.receiveClose f.number c

end Sys2Proof.Machine
end

