-- ==== Sys2Proof/Machine/LineHold.lean ====
section
/-! DEFINITION. The Line Hold Unit (05 sections 5.6 and 5.7): congestion, the own hold and its results, and
the hold list. -/

namespace Sys2Proof.Machine

/-! ### Asking peers to hold (R88 to R90) -/

/-- An arrival has raised the occupancy from `before` to `after` (R88). -/
def State.noteRise (s : State) (before after : Nat) : State :=
  if before < Config.highMark ∧ Config.highMark ≤ after ∧ s.lhu.congested = false then
    (s.setLhu { s.lhu with congested := true }).submitHold Config.holdSendMs
  else s

/-- A take has lowered the occupancy to `after` (R90). -/
def State.noteFall (s : State) (after : Nat) : State :=
  if after = Config.lowMark ∧ s.lhu.congested then
    (s.setLhu { s.lhu with congested := false, ownHold := none, resend := none }).submitHold 0
  else s

/-- The own-hold timer is set to tHSEND and runs (R89). -/
def Lhu.startOwnHold (l : Lhu) (now : Time) : Lhu :=
  { l with
    ownHold := some (now + Config.tHSEND), resend := some (now + (Config.tHSEND - Config.tHRESEND)) }

/-- The own-hold timer is stopped (R89, R90). -/
def Lhu.stopOwnHold (l : Lhu) : Lhu := { l with ownHold := none, resend := none }

/-- The result SENT of a HOLD (R89). -/
def State.holdSent (s : State) (f : Frame) : State :=
  let s := s.count .holdsSent
  if holdOf f.payload = 0 then s.setLhu s.lhu.stopOwnHold
  else if s.lhu.congested then s.setLhu (s.lhu.startOwnHold s.now)
  else s

/-- The result ABANDONED or LATE of a HOLD (R89). -/
def State.holdLost (s : State) (f : Frame) : State :=
  if holdOf f.payload ≠ 0 ∧ s.lhu.congested then s.submitHold Config.holdSendMs else s

/-- The moment at which the running own-hold timer falls to tHRESEND while congested (R89). -/
def State.resendOccasion (s : State) : Option Time :=
  if s.lhu.congested ∧ s.lhu.ownHold.isSome then s.lhu.resend else none

/-- HOLD_RESEND (R89): the own-hold timer falls to tHRESEND. The timer runs on. -/
def execHoldResend (s : State) : Host.Outcome State Fault Refusal :=
  .next (s.onOccasion s.resendOccasion fun s =>
    (s.setLhu { s.lhu with resend := none }).submitHold Config.holdSendMs)

/-- The moment at which the own-hold timer reaches zero, after it has fallen to tHRESEND (R89). -/
def State.ownHoldOccasion (s : State) : Option Time := if s.lhu.resend.isNone then s.lhu.ownHold else none

/-- OWN_HOLD_EXPIRY (R89): after the timer has fallen to tHRESEND. -/
def execOwnHoldExpiry (s : State) : Host.Outcome State Fault Refusal :=
  .next (s.onOccasion s.ownHoldOccasion fun s =>
    s.setLhu { s.lhu with ownHold := none })

/-! ### Being held (R91, R92) -/

/-- The least expiry time of a hold list. -/
def leastExpiry : List HoldEntry → Time
  | [] => 0
  | [e] => e.expiresAt
  | e :: es => min e.expiresAt (leastExpiry es)

/-- The list without its first entry with an expiry time: the one whose time was set longest ago. -/
def dropExpiry (t : Time) : List HoldEntry → List HoldEntry
  | [] => []
  | e :: es => if e.expiresAt = t then es else e :: dropExpiry t es

/-- A HOLD's effect on the hold list (R91). The list is in the order in which times were set. -/
def holdListAfter (hs : List HoldEntry) (peer : NodeId) (timeMs : Nat) (now : Time) : List HoldEntry :=
  let others := hs.filter (fun h => h.peer ≠ peer)
  let entry : HoldEntry := { peer := peer, expiresAt := now + Config.ms (min timeMs Config.holdMaxMs) }
  if timeMs = 0 then others
  else if others.length < Config.holdListCap then others ++ [entry]
  else dropExpiry (leastExpiry others) others ++ [entry]

/-- A HOLD that reaches the LHU at its arrival (R79, R91). -/
def State.takeHold (s : State) (f : Frame) : State :=
  s.setLhu { s.lhu with holds := holdListAfter s.lhu.holds f.sender (holdOf f.payload) s.now }

/-- The moment at which a peer's entry runs out (R92). -/
def State.holdOccasion (s : State) (peer : NodeId) : Option Time :=
  (s.lhu.holds.find? (fun h => h.peer = peer)).map HoldEntry.expiresAt

/-- HOLD_EXPIRY (R92). -/
def execHoldExpiry (peer : NodeId) (s : State) : Host.Outcome State Fault Refusal :=
  .next (s.onOccasion (s.holdOccasion peer) fun s =>
    s.setLhu { s.lhu with holds := s.lhu.holds.filter (fun h => h.peer ≠ peer) })

end Sys2Proof.Machine
end

