-- ==== Sys2Proof/Machine/LineAccess.lean ====
section
/-! DEFINITION. The Line Access Unit's transmitter (04 sections 4.4 to 4.9): takes, number checks, sending,
collisions, back-off, abandonment, results, and its part of a line reset. -/

namespace Sys2Proof.Machine

/-! ### Results (R74) -/

/-- The result of a frame that left the transmitter (R74). -/
inductive TxResult where
  | sent
  | stale
  | abandoned
  | late
deriving DecidableEq, Repr

/-- The producer's action on a result (R74, R89, R132, R133, R151). -/
def State.giveResult (s : State) (f : Frame) (r : TxResult) : State :=
  match f.kind, r with
  | .doorcmd, .sent | .doorcmd, .abandoned | .doorcmd, .late => s.copyEnded f
  | .doorcmd, .stale => s.copyStale f
  | .heatbid, .sent => s.setHsu { s.hsu with lastBidSent := some s.now }
  | .hold, .sent => s.holdSent f
  | .hold, .abandoned | .hold, .late => s.holdLost f
  | .heatbid, .stale | .heatbid, .abandoned | .heatbid, .late | .hold, .stale => s
  | .reform, _ | .roll, _ | .tally, _ | .doorstat, _ => s

/-! ### Taking and attempting (R63, R67) -/

/-- The frame leaves its place (R58, R63). -/
def Lau.removeHead (l : Lau) : StorePlace → Lau
  | .reformSlot => { l with reformSlot := none }
  | .holdSlot => { l with holdSlot := none }
  | .safety => { l with safety := l.safety.drop 1 }
  | .consist => { l with consist := l.consist.drop 1 }
  | .supply => { l with supply := l.supply.drop 1 }

/-- The number check of R67. -/
def passesNumberCheck (number : FormationNumber) (f : Frame) : Bool :=
  f.number = number || f.isClose || f.kind = .hold

/-- The transmitter is READY with no current frame. -/
def Lau.toReady (l : Lau) : Lau := { l with tx := .ready, current := none }

/-- The start of an attempt (R67): SEND, or the frame is dropped and its producer gets STALE. A reception in
progress is discarded when this node begins to drive the line (R77). -/
def State.attempt (s : State) (c : CurrentFrame) : State :=
  if passesNumberCheck s.cc.number c.frame then
    (s.setLau { s.lau with tx := .send s.now, current := some c }).setRxp { s.rxp with receiving := false }
  else (s.setLau s.lau.toReady).giveResult c.frame .stale

/-- The occasion at which the line's idle time reaches a frame's gap (R65, R66): none while there is
carrier. -/
def State.gapOccasion (s : State) (f : Frame) : Option Time :=
  if s.carrier then none else some (s.lau.idleFrom + s.lau.gap f)

/-- The occasion of TRANSMIT_TAKE: READY with a candidate (R63). -/
def State.takeOccasion (s : State) : Option Time :=
  if s.lau.tx = .ready then s.candidate.bind (fun c => s.gapOccasion c.2) else none

/-- The candidate becomes the current frame and its number is checked (R63, R67). A HEATBID taken while the
node is held is a breakthrough (R64). -/
def State.takeCandidate (s : State) : State :=
  match s.candidate with
  | some (place, f) =>
    let s := s.setLau (s.lau.removeHead place)
    let s := if f.kind = .heatbid ∧ s.held then s.count .holdBreakthroughs else s
    s.attempt { frame := f, collisions := 0, late := false, cut := .uncut }
  | none => s

/-- TRANSMIT_TAKE (R63). -/
def execTransmitTake (s : State) : Host.Outcome State Fault Refusal :=
  .next (s.onOccasion s.takeOccasion State.takeCandidate)

/-- The moment at which the last HEATBID sent becomes tBREAK old, while the node is held with a bid waiting
that is not eligible yet (R64). -/
def State.breakthroughOccasion (s : State) : Option Time :=
  if s.held ∧ s.breakthrough = false ∧ s.lau.supply ≠ [] then s.hsu.lastBidSent.map (· + Config.tBREAK)
  else none

/-- BREAKTHROUGH_ELIGIBLE (R64): time comes to that moment. Eligibility and the candidate are read from it
(`State.breakthrough`, `State.candidate`), so the arbiter's new name needs no other change. -/
def execBreakthroughEligible (s : State) : Host.Outcome State Fault Refusal :=
  .next (s.onOccasion s.breakthroughOccasion fun s => s)

/-- The occasion of RETRY_ATTEMPT: REWAIT, and the gap of the current frame reached (R65, R66). -/
def State.retryOccasion (s : State) : Option Time :=
  if s.lau.tx = .rewait then s.lau.current.bind (fun c => s.gapOccasion c.frame) else none

/-- RETRY_ATTEMPT (R67). -/
def execRetryAttempt (s : State) : Host.Outcome State Fault Refusal :=
  .next (s.onOccasion s.retryOccasion fun s =>
    match s.lau.current with
    | some c => s.attempt c
    | none => s)

/-! ### Line events -/

/-- CARRIER_ONSET (R65, R77): another node's carrier appears. A reception begins if the line was idle; while
this node drives the line none does. -/
def execCarrierOnset (s : State) : Host.Outcome State Fault Refusal :=
  let begins := !s.carrier
  .next ((s.setPins { s.pins with peerCarrier := true }).inService fun s =>
    if begins then s.setRxp { s.rxp with receiving := true } else s)

/-- This node stops driving the line: it is idle from now on unless another node drives it (R65). -/
def State.stopDriving (s : State) : State := s.setLau { s.lau with idleFrom := s.now }

/-- The occasion of FRAME_SENT: the last bit of the current frame (R68). -/
def State.sentOccasion (s : State) : Option Time :=
  match s.lau.tx, s.lau.current with
  | .send t, some c => some (t + c.frame.bitTimes)
  | _, _ => none

/-- FRAME_SENT (R68, R75 step 5). -/
def execFrameSent (s : State) : Host.Outcome State Fault Refusal :=
  .next (s.onOccasion s.sentOccasion fun s =>
    match s.lau.current with
    | some c =>
      let s := s.count .framesSent
      ((s.setLau s.lau.toReady).stopDriving).giveResult c.frame .sent
    | none => s)

/-! ### Collisions (R69 to R72) -/

/-- The occasion of a collision at a position (R69): a bit of the frame being driven. Model choice: positions
count the bit times that have passed since the frame began, from 0 to its length, so a collision at the moment
of the frame's end may still be taken before FRAME_SENT (log entry 27). -/
def State.collisionOccasion (s : State) (position : Nat) : Option Time :=
  match s.lau.tx, s.lau.current with
  | .send t, some c => if position ≤ c.frame.bitTimes then some (t + position) else none
  | _, _ => none

/-- The current frame after a collision (R69): late beyond tLATE, else one more ordinary collision. -/
def CurrentFrame.collide (c : CurrentFrame) (position : Nat) : CurrentFrame :=
  if Config.tLATE < position then { c with late := true } else { c with collisions := c.collisions + 1 }

/-- COLLISION (R69): the jam begins. -/
def execCollision (position : Nat) (s : State) : Host.Outcome State Fault Refusal :=
  .next (s.onOccasion (s.collisionOccasion position) fun s =>
    (s.setLau
      { s.lau with
        tx := .jam (s.now + Config.tJAM)
        current := s.lau.current.map (fun c => c.collide position) }).count .collisions)

/-- The range of r after n collisions, from 0 (R70). -/
def backoffRange (n : Nat) : Nat := 2 ^ min n Config.backoffCap

/-- The r that the generator draws: a free value in its range (R70; log entry 7). -/
def backoffSlots (serial : NodeId) (k n : Nat) : Nat := Config.backoffDraw serial k % backoffRange n

/-- Back-off after an ordinary collision (R70). -/
def State.backOff (s : State) (c : CurrentFrame) : State :=
  s.setLau
    { s.lau with
      tx := .backoff (s.now + backoffSlots s.id s.lau.draws c.collisions * Config.tSLOT)
      draws := s.lau.draws + 1 }

/-- FRAME_ABANDONED is posted for the kinds with the short gap (R71, R72). -/
def State.postAbandoned (s : State) (f : Frame) : State :=
  if f.kind.isUrgent then s.post (.frameAbandoned f.kind) else s

/-- The frame is given up with a result (R71, R72). -/
def State.giveUp (s : State) (f : Frame) (r : TxResult) : State :=
  let s := (s.postAbandoned f).giveResult f r
  s.setLau s.lau.toReady

/-- What the end of the jam does to the current frame (R69 to R72, R75). Model choice: the end of a jam that a
line reset overtakes counts and posts nothing, be it a late or a twelfth collision's (log entry 17). -/
def State.afterJam (s : State) (c : CurrentFrame) : State :=
  match c.cut with
  | .whileJamming => s.setLau s.lau.toReady
  | .whileSending =>
    let s := if c.late then s.count .lateCollisions else s
    s.setLau s.lau.toReady
  | .uncut =>
    if c.late then (s.count .lateCollisions).giveUp c.frame .late
    else if Config.abandonLimit ≤ c.collisions then (s.count .framesAbandoned).giveUp c.frame .abandoned
    else s.backOff c

/-- The occasion of JAM_END. -/
def State.jamOccasion (s : State) : Option Time :=
  match s.lau.tx with
  | .jam t => some t
  | .ready | .send _ | .backoff _ | .rewait => none

/-- JAM_END (R70 to R72). -/
def execJamEnd (s : State) : Host.Outcome State Fault Refusal :=
  .next (s.onOccasion s.jamOccasion fun s =>
    match s.lau.current with
    | some c => s.stopDriving.afterJam c
    | none => s.stopDriving.setLau s.stopDriving.lau.toReady)

/-- The occasion of BACKOFF_EXPIRY. -/
def State.backoffOccasion (s : State) : Option Time :=
  match s.lau.tx with
  | .backoff t => some t
  | .ready | .send _ | .jam _ | .rewait => none

/-- BACKOFF_EXPIRY (R70). -/
def execBackoffExpiry (s : State) : Host.Outcome State Fault Refusal :=
  .next (s.onOccasion s.backoffOccasion fun s => s.setLau { s.lau with tx := .rewait })

/-! ### Line reset (R75) -/

/-- The LAU's part of a line reset: the store is emptied, a frame that is not on the line is discarded, and
one that is on the line is marked. -/
def Lau.lineReset (l : Lau) : Lau :=
  let l := { l with reformSlot := none, holdSlot := none, safety := [], consist := [], supply := [] }
  match l.tx with
  | .ready => l
  | .backoff _ | .rewait => l.toReady
  | .send _ => { l with current := l.current.map (fun c => { c with cut := .whileSending }) }
  | .jam _ =>
    { l with
      current := l.current.map (fun c =>
        { c with cut := if c.cut = .uncut then .whileJamming else c.cut }) }

end Sys2Proof.Machine
end

