-- ==== Sys2Proof/Machine/ReceivePath.lean ====
section
/-! DEFINITION. The Receive Path (05 sections 5.2 to 5.5): the arrival of a frame, the receive queue with its
full policy, and the dispatcher's take. -/

namespace Sys2Proof.Machine

/-! ### The receive queue (R81 to R84) -/

/-- The queue without its oldest CONSIST or SUPPLY entry, if it has one (R83, R84). -/
def displaceOldest : List Frame → Option (List Frame)
  | [] => none
  | f :: fs => if f.kind.isSafety then (displaceOldest fs).map (f :: ·) else some fs

/-- The queue after the full policy (R83, R84). -/
def fullPolicy (policy : RxPolicy) (q : List Frame) (f : Frame) : List Frame :=
  if f.kind.isSafety ∨ policy = .keepNew then
    match displaceOldest q with
    | some rest => rest ++ [f]
    | none => q
  else q

/-- An accepted frame reaches the queue (R82 to R84), and the LHU reads the occupancy (R88). -/
def State.enqueue (s : State) (f : Frame) : State :=
  let n := s.rxp.queue.length
  if n < Config.rxqSize then
    (s.setRxp { s.rxp with queue := s.rxp.queue ++ [f] }).noteRise n (n + 1)
  else
    (s.setRxp { s.rxp with queue := fullPolicy s.straps.rxPolicy s.rxp.queue f }).count .receiveDrops

/-! ### Arrival (R78 to R80) -/

/-- An accepted frame: counted, sighted, and then queued (R80). -/
def State.acceptFrame (s : State) (f : Frame) : State :=
  ((s.count .framesReceived).sight f).enqueue f

/-- The number comparison of R80 accepts the frame. -/
def accepts (number : FormationNumber) (f : Frame) : Bool :=
  f.number = number || isNewer f.number number || f.isClose

/-- A frame that passed the checks of R78 (R79, R80). -/
def State.routeFrame (s : State) (f : Frame) : State :=
  if f.kind = .hold then (s.count .framesReceived).takeHold f
  else if accepts s.cc.number f then s.acceptFrame f
  else s.count .staleFrames

/-- A reception ends and is checked (R78). -/
def State.endReception (s : State) (r : Reception) : State :=
  match checkReception s.id r with
  | some f => s.routeFrame f
  | none => s.count .checkErrors

/-- The LAU senses the end of the carrier of other nodes: the line is idle from now on unless this node drives
it (R65, R77). -/
def State.endCarrier (s : State) : State := s.setLau { s.lau with idleFrom := s.now }

/-- FRAME_ARRIVAL (R77, R78): the carrier of other nodes ends. It is an arrival when a reception was being
assembled. In external reset the line has its level and the LAU senses none (R76). -/
def execFrameArrival (reception : Reception) (s : State) : Host.Outcome State Fault Refusal :=
  .next
    (if s.pins.peerCarrier then
      (s.setPins { s.pins with peerCarrier := false }).inService fun s =>
        let t := s.endCarrier
        if t.rxp.receiving then (t.setRxp { t.rxp with receiving := false }).endReception reception else t
    else s)

/-! ### Take (R85, R86) -/

/-- The occasion of FRAME_TAKE: a head whose consumer is free is taken at once (R85). -/
def State.dispatchOccasion (s : State) : Option Time :=
  match s.rxp.queue with
  | f :: _ => if s.consumerBusy f.kind then none else some s.now
  | [] => none

/-- A frame handed to its consumer (R86). A REFORM has no further effect at its take (R30). -/
def State.consume (s : State) (f : Frame) : State :=
  match f.kind with
  | .reform | .hold => s
  | .roll => s.takeRoll f
  | .tally => s.takeTally f
  | .doorcmd => s.takeDoorcmd f
  | .doorstat => s.takeDoorstat f
  | .heatbid => s.takeHeatbid f

/-- The take of the head (R86); the LHU reads the occupancy first (R81, R90; log entry 18). A CLOSE of another
number reaches the DCU also where its side holds no encoding, and the DCU ignores it there (R189). -/
def State.takeHead (s : State) (f : Frame) (rest : List Frame) : State :=
  let s := (s.setRxp { s.rxp with queue := rest }).noteFall rest.length
  if f.number = s.cc.number ∨ f.hasCloseAction then s.consume f else s.count .staleFrames

/-- FRAME_TAKE (R86). -/
def execFrameTake (s : State) : Host.Outcome State Fault Refusal :=
  .next (s.onOccasion s.dispatchOccasion fun s =>
    match s.rxp.queue with
    | f :: rest => s.takeHead f rest
    | [] => s)

end Sys2Proof.Machine
end

