-- ==== Sys2Proof/Machine/LocalPort.lean ====
section
/-! DEFINITION. The Local Port (chapter 10): the transaction, and the requests that belong to the port. The
requests of other blocks stand in their families. -/

namespace Sys2Proof.Machine

/-! ### The transaction (R169, R170) -/

/-- The port at the start of a transaction (R169; 11 section 11.1). -/
def Port.startTransaction (p : Port) : Port :=
  { p with phase := .kind, response := [], ready := false, respBy := none }

/-- CHIP_SELECT_FALL (R169): a transaction begins. Chip select that is low already does not fall. -/
def execChipSelectFall (s : State) : Host.Outcome State Fault Refusal :=
  .next
    (if s.pins.csLow then s
    else
      (s.setPins { s.pins with csLow := true }).inService fun s =>
        s.setPort s.port.startTransaction)

/-- CHIP_SELECT_RISE (R169, R170): the transaction ends; an untaken request is dropped, an unread response is
lost, and the effect of a request that was taken stands. -/
def execChipSelectRise (s : State) : Host.Outcome State Fault Refusal :=
  .next
    (if s.pins.csLow then
      (s.setPins { s.pins with csLow := false }).inService fun s =>
        s.setPort { s.port with phase := .idle, response := [], ready := false, respBy := none }
    else s)

/-- RESPONSE_READY (R170): it may come at any moment within tRESP (log entry 8). -/
def execResponseReady (s : State) : Host.Outcome State Fault Refusal :=
  .next (s.inService fun s =>
    if s.port.phase = .response ∧ s.port.ready = false then
      s.setPort { s.port with ready := true, respBy := none }
    else s)

/-- The byte that the controller reads: the wait byte until the response is ready, then, `i` bytes after
the first one read when ready, the response, and then filler (R170, R184). -/
def Port.readByte (p : Port) (i : Nat) : Byte :=
  if p.ready then p.response.getD i fillerByte else waitByte

/-- A byte is clocked in that is not the last one of a request (R169). -/
def State.clockByte (s : State) (b : Byte) : State :=
  if s.inReset then s else s.setPort (s.port.clock b)

/-- UNKNOWN_REQUEST (R169, R184): a kind byte that encodes no request is answered UNKNOWN at once. Model choice:
a byte that is the kind byte of a request with arguments, or one of its arguments but the last, only counts
(log entry 22). -/
def execUnknownRequest (kind : Byte) (s : State) : Host.Outcome State Fault Refusal :=
  .next
    (if s.port.phase = .kind ∧ (requestOf kind).isNone then
      s.onRequest (.unknownRequest kind) fun s => (s, answer .unknown)
    else s.clockByte kind)

/-! ### STATUS (R171) -/

/-- The train-left and train-right bytes (R56, R185): 0xFF for both when UNKNOWN. -/
def State.mappingBytes (s : State) : List Byte :=
  match s.trainLeft with
  | some side => [sideCode side, sideCode side.other]
  | none => [0xFF, 0xFF]

/-- The status record, offsets 1 to 15 (R171, R185). -/
def State.statusRecord (s : State) : List Byte :=
  [formStateCode s.cc.formState,
   flagsByte [s.cc.table.stale, s.cc.table.partialFlag, s.dcu.secureOn, s.held, s.lhu.congested,
     s.port.lostMarker]]
  ++ bytes16 s.cc.number.toNat
  ++ [BitVec.ofNat 8 s.ownPosition, BitVec.ofNat 8 s.cc.table.size, orientationCode s.ownOrientation]
  ++ s.mappingBytes
  ++ [ownCabCode s.cc.ownCab, BitVec.ofNat 8 s.hsu.applied.frost, BitVec.ofNat 8 s.hsu.applied.comfort,
      BitVec.ofNat 8 s.port.notices.length,
      summaryByte (sideSummary s.dlc.leaves .one), summaryByte (sideSummary s.dlc.leaves .two)]

/-- STATUS (R171): it changes nothing but the port's transaction. -/
def execStatus (s : State) : Host.Outcome State Fault Refusal :=
  .next (s.onRequest .status fun s => (s, answer .ok ++ s.statusRecord))

/-! ### CONSIST_READ (R172) -/

/-- The time since a member was last heard in ms, which stops at 65535 and is 0 for the own entry (R172).
Model choice: whole ms, rounded down (log entry 29). -/
def State.sinceHeard (s : State) (e : TableEntry) : Nat :=
  if e.member.id = s.id then 0 else min ((s.now - e.lastHeard) / 1000) 65535

/-- The fifteen bytes of a position: its entry, or EMPTY (R172, R185). -/
def State.entryBytes (s : State) (p : Nat) : List Byte :=
  match s.cc.table.entryAt p with
  | some e =>
    [BitVec.ofNat 8 p] ++ bytes32 e.member.id.toNat
      ++ [orientationCode e.member.orientation, coachTypeCode e.member.coachType,
          cabResultCode e.member.cab, BitVec.ofNat 8 e.member.leavesS1, BitVec.ofNat 8 e.member.leavesS2,
          BitVec.ofNat 8 e.member.heaters, BitVec.ofNat 8 e.member.ratedHeat,
          flagsByte [e.member.supply, e.silent]]
      ++ bytes16 (s.sinceHeard e)
  | none => List.replicate 15 0x00

/-- The table header and the entries (R172, R185). -/
def State.consistBytes (s : State) (start count : Nat) : List Byte :=
  bytes16 s.cc.number.toNat
    ++ [BitVec.ofNat 8 s.cc.table.size, flagsByte [s.cc.table.stale, s.cc.table.partialFlag]]
    ++ (List.range count).flatMap (fun i => s.entryBytes (start + i))

/-- CONSIST_READ (R172). -/
def execConsistRead (start count : Byte) (s : State) : Host.Outcome State Fault Refusal :=
  .next (s.onRequest (.consistRead start count) fun s =>
    if 1 ≤ start.toNat ∧ start.toNat ≤ 32 ∧ 1 ≤ count.toNat ∧ count.toNat ≤ 8 then
      (s, answer .ok ++ s.consistBytes start.toNat count.toNat)
    else (s, answer .badValue))

/-! ### NOTICE_TAKE (R177) -/

/-- The queue after the take of its head (R177): NOTICES_LOST takes the place freed when the marker was set. -/
def Port.takeNotice (p : Port) (rest : List Notice) : Port :=
  if p.lostMarker then { p with notices := rest ++ [.noticesLost], lostMarker := false }
  else { p with notices := rest }

/-- NOTICE_TAKE (R177). -/
def execNoticeTake (s : State) : Host.Outcome State Fault Refusal :=
  .next (s.onRequest .noticeTake fun s =>
    match s.port.notices with
    | [] => (s, answer .ok ++ noneRecord)
    | n :: rest => (s.setPort (s.port.takeNotice rest), answer .ok ++ n.record))

/-! ### Counters (R181, R182) -/

/-- COUNTER_READ (R181). -/
def execCounterRead (index : Byte) (s : State) : Host.Outcome State Fault Refusal :=
  .next (s.onRequest (.counterRead index) fun s =>
    if index.toNat ≤ 13 then (s, answer .ok ++ bytes16 (s.port.counter index.toNat).toNat)
    else (s, answer .badIndex))

/-- A decrement, floored at 0 (R182). -/
def Port.decrement (p : Port) (i : Nat) (amount : BitVec 16) : Port :=
  { p with counters := p.counters.set i (BitVec.ofNat 16 ((p.counter i).toNat - amount.toNat)) }

/-- COUNTER_DECREMENT (R182). -/
def execCounterDecrement (index : Byte) (amount : BitVec 16) (s : State) :
    Host.Outcome State Fault Refusal :=
  .next (s.onRequest (.counterDecrement index amount) fun s =>
    if index.toNat ≤ 13 then
      let s := s.setPort (s.port.decrement index.toNat amount)
      (s, answer .ok ++ bytes16 (s.port.counter index.toNat).toNat)
    else (s, answer .badIndex))

/-! ### STRAPS (R175) -/

/-- The strap record and the node serial (R175, R185). -/
def Straps.record (st : Straps) : List Byte :=
  [coachTypeCode st.coachType, endCode st.cabEnd, BitVec.ofNat 8 st.leavesS1, BitVec.ofNat 8 st.leavesS2,
   sideCode st.sideRef, BitVec.ofNat 8 st.heatCh, BitVec.ofNat 8 st.heatKw,
   (match st.rxPolicy with | .keepOld => 0x00 | .keepNew => 0x01),
   (match st.outPol with | .activeHigh => 0x00 | .activeLow => 0x01)]
  ++ bytes32 st.serial.toNat

/-- STRAPS (R175). -/
def execStraps (s : State) : Host.Outcome State Fault Refusal :=
  .next (s.onRequest .straps fun s => (s, answer .ok ++ s.straps.record))

/-! ### LINE_RESET (R174) -/

/-- A line reset (R75, R93, R145, R167): the LAU, the RXP, the LHU and the DCU's repeat schedule, in one
event. Every other state keeps its value (R14, R40, R57, R106, R126, R183). -/
def State.lineReset (s : State) : State :=
  (((s.setLau s.lau.lineReset).setRxp { receiving := false, queue := [] }).setLhu
    { congested := false, ownHold := none, resend := none, holds := [] }).setDcu { s.dcu with schedule := [] }

/-- LINE_RESET (R174): always answered OK. -/
def execLineReset (s : State) : Host.Outcome State Fault Refusal :=
  .next (s.onRequest .lineReset fun s => (s.lineReset, answer .ok))

end Sys2Proof.Machine
end

