-- ==== Sys2Proof/Machine/Reset.lean ====
section
/-! DEFINITION. External reset (R13, R40, R76, R94, R97, R106, R127, R146, R168, R176, R183). -/

namespace Sys2Proof.Machine

/-- An end link while external reset is asserted: its reset values, nothing timed, and a beacon being sent
cut off after the character in progress; once that has ended the transmit conductor is idle (R13). -/
def EndLink.held (l : EndLink) (now : Time) : EndLink :=
  { EndLink.atRelease false with sending := (l.cutBeacon now).sending }

/-- Every block at its reset values (R176 step 2), timed from release. -/
def State.released (s : State) (st : Straps) : State where
  pins := s.pins
  straps := st
  inReset := false
  now := 0
  endA := EndLink.atRelease s.pins.contactA
  endB := EndLink.atRelease s.pins.contactB
  cc := Cc.atRelease st
  lau := Lau.atRelease
  rxp := Rxp.atRelease
  lhu := Lhu.atRelease
  otb := Otb.atRelease
  dlc := Dlc.atRelease st s.pins
  dcu := Dcu.atRelease (Dlc.atRelease st s.pins)
  hsu := Hsu.atRelease st
  port := Port.atRelease
  pending := s.pending

/-- External reset is asserted (R13, R40, R76, R94, R106, R127, R146, R168, R176): every block is stopped
and holds its reset values, no timer runs, every leaf record is lost, and the strap record is not yet latched
anew. -/
def State.asserted (s : State) : State :=
  { s with
    inReset := true
    endA := s.endA.held s.now
    endB := s.endB.held s.now
    cc := { Cc.atRelease s.straps with tStart := none }
    lau := Lau.atRelease
    rxp := Rxp.atRelease
    lhu := Lhu.atRelease
    otb := Otb.atRelease
    dlc := { leaves := [] }
    dcu := Dcu.atRelease { leaves := [] }
    hsu := Hsu.atRelease s.straps
    port := Port.atRelease }

/-- EXTERNAL_RESET_ASSERT (R13). In a reset that is asserted already nothing changes. -/
def execExternalResetAssert (s : State) : Host.Outcome State Fault Refusal :=
  .next (if s.inReset then s else s.asserted)

/-- EXTERNAL_RESET_RELEASE (R176): the straps and the serial are latched (R175) and every block takes its
reset values. A release that no assertion came before acts as one that an assertion of no length came before
(log entry 6). -/
def execExternalResetRelease (pins : StrapPins) (s : State) : Host.Outcome State Fault Refusal :=
  .next (s.released (Straps.latch pins))

end Sys2Proof.Machine
end

