-- ==== Sys2Proof/Machine/Dispatch.lean ====
section
/-! DEFINITION. The meaning of each command: one arm per constructor of `Instr`, one call per arm. -/

namespace Sys2Proof.Machine

def exec (i : Instr) (s : State) : Host.Outcome State Fault Refusal :=
  match i with
  | .externalResetAssert => Sys2Proof.Machine.execExternalResetAssert s
  | .externalResetRelease pins => Sys2Proof.Machine.execExternalResetRelease pins s
  | .rawContactChange e level => Sys2Proof.Machine.execRawContactChange e level s
  | .debouncedContactActive e => Sys2Proof.Machine.execDebouncedContactActive e s
  | .debouncedContactLost e => Sys2Proof.Machine.execDebouncedContactLost e s
  | .endBeaconSend e => Sys2Proof.Machine.execEndBeaconSend e s
  | .endBeaconArrival e chars => Sys2Proof.Machine.execEndBeaconArrival e chars s
  | .faultyReception e => Sys2Proof.Machine.execFaultyReception e s
  | .beaconLoss e => Sys2Proof.Machine.execBeaconLoss e s
  | .tstartExpiry => Sys2Proof.Machine.execTstartExpiry s
  | .rollRepeat => Sys2Proof.Machine.execRollRepeat s
  | .gatherTimeout => Sys2Proof.Machine.execGatherTimeout s
  | .orderingEnd => Sys2Proof.Machine.execOrderingEnd s
  | .tallyRepeat => Sys2Proof.Machine.execTallyRepeat s
  | .tallyTimeout => Sys2Proof.Machine.execTallyTimeout s
  | .memberSilent position => Sys2Proof.Machine.execMemberSilent position s
  | .reform => Sys2Proof.Machine.execReform s
  | .cabClaim code => Sys2Proof.Machine.execCabClaim code s
  | .cabRelease code => Sys2Proof.Machine.execCabRelease code s
  | .transmitTake => Sys2Proof.Machine.execTransmitTake s
  | .breakthroughEligible => Sys2Proof.Machine.execBreakthroughEligible s
  | .carrierOnset => Sys2Proof.Machine.execCarrierOnset s
  | .frameSent => Sys2Proof.Machine.execFrameSent s
  | .collision position => Sys2Proof.Machine.execCollision position s
  | .jamEnd => Sys2Proof.Machine.execJamEnd s
  | .backoffExpiry => Sys2Proof.Machine.execBackoffExpiry s
  | .retryAttempt => Sys2Proof.Machine.execRetryAttempt s
  | .lineReset => Sys2Proof.Machine.execLineReset s
  | .frameArrival reception => Sys2Proof.Machine.execFrameArrival reception s
  | .frameTake => Sys2Proof.Machine.execFrameTake s
  | .holdResend => Sys2Proof.Machine.execHoldResend s
  | .ownHoldExpiry => Sys2Proof.Machine.execOwnHoldExpiry s
  | .holdExpiry peer => Sys2Proof.Machine.execHoldExpiry peer s
  | .aMatch channel => Sys2Proof.Machine.execAMatch channel s
  | .bMatch channel => Sys2Proof.Machine.execBMatch channel s
  | .pwmCompareA channel => Sys2Proof.Machine.execPwmCompareA channel s
  | .pwmPeriodEnd channel => Sys2Proof.Machine.execPwmPeriodEnd channel s
  | .rawLeafInputChange leaf input level => Sys2Proof.Machine.execRawLeafInputChange leaf input level s
  | .leafInputFiltered leaf input => Sys2Proof.Machine.execLeafInputFiltered leaf input s
  | .lockComplete leaf => Sys2Proof.Machine.execLockComplete leaf s
  | .unlockFault leaf => Sys2Proof.Machine.execUnlockFault leaf s
  | .leafRecovery leaf => Sys2Proof.Machine.execLeafRecovery leaf s
  | .isolateOn leaf onOff => Sys2Proof.Machine.execIsolateOn leaf onOff s
  | .isolateOff leaf onOff => Sys2Proof.Machine.execIsolateOff leaf onOff s
  | .doorIssueRelease action side rangeFrom rangeTo => Sys2Proof.Machine.execDoorIssueRelease action side rangeFrom rangeTo s
  | .doorIssueClose action side rangeFrom rangeTo => Sys2Proof.Machine.execDoorIssueClose action side rangeFrom rangeTo s
  | .doorcmdRepeat seq => Sys2Proof.Machine.execDoorcmdRepeat seq s
  | .doorstatPeriod => Sys2Proof.Machine.execDoorstatPeriod s
  | .doorstatStale position => Sys2Proof.Machine.execDoorstatStale position s
  | .heatDemand channel frost comfort => Sys2Proof.Machine.execHeatDemand channel frost comfort s
  | .supplyOffer offer => Sys2Proof.Machine.execSupplyOffer offer s
  | .heatbidPeriod => Sys2Proof.Machine.execHeatbidPeriod s
  | .bidStale position => Sys2Proof.Machine.execBidStale position s
  | .allocationEnd => Sys2Proof.Machine.execAllocationEnd s
  | .settleExpiry => Sys2Proof.Machine.execSettleExpiry s
  | .holdOverExpiry => Sys2Proof.Machine.execHoldOverExpiry s
  | .status => Sys2Proof.Machine.execStatus s
  | .consistRead start count => Sys2Proof.Machine.execConsistRead start count s
  | .noticeTake => Sys2Proof.Machine.execNoticeTake s
  | .counterRead index => Sys2Proof.Machine.execCounterRead index s
  | .counterDecrement index amount => Sys2Proof.Machine.execCounterDecrement index amount s
  | .straps => Sys2Proof.Machine.execStraps s
  | .unknownRequest kind => Sys2Proof.Machine.execUnknownRequest kind s
  | .chipSelectRise => Sys2Proof.Machine.execChipSelectRise s
  | .responseReady => Sys2Proof.Machine.execResponseReady s
  | .chipSelectFall => Sys2Proof.Machine.execChipSelectFall s

end Sys2Proof.Machine
end

