-- ==== Sys2Proof/Machine/Due.lean ====
section
/-! DEFINITION. The node's own events with the moments at which they come (log entries 2, 3 and 12): what the
step reads on an empty queue. Each moment is the occasion that the event's own meaning reads. -/

namespace Sys2Proof.Machine

/-- The two ends. -/
def allEnds : List CoachEnd := [.a, .b]

/-- Positions 1 to n. -/
def positionsTo (n : Nat) : List Nat := (List.range n).map (· + 1)

/-- The end links' own events (chapter 1). -/
def State.endEvents (s : State) : List (Instr × Option Time) :=
  allEnds.flatMap fun e =>
    [(.debouncedContactLost e, s.debounceOccasion e false),
     (.debouncedContactActive e, s.debounceOccasion e true),
     (.faultyReception e, s.faultOccasion e),
     (.beaconLoss e, s.lossOccasion e),
     (.endBeaconSend e, s.beaconOccasion e)]

/-- The latest moment at which the computation that has run longest ends (R28). -/
def State.orderingDeadline (s : State) : Option Time :=
  match s.cc.abandoned with
  | t :: _ => some t
  | [] => s.cc.ordering.map OrderingRun.endsBy

/-- The CC's own events (chapters 2 and 3). -/
def State.formationEvents (s : State) : List (Instr × Option Time) :=
  [(.orderingEnd, s.orderingDeadline),
   (.tstartExpiry, s.startOccasion),
   (.tallyTimeout, s.tallyOccasion),
   (.gatherTimeout, s.gatherOccasion),
   (.rollRepeat, s.rollOccasion),
   (.tallyRepeat, s.tallyRepeatOccasion)]
  ++ (positionsTo s.cc.table.size).map (fun p => (.memberSilent p, s.silentOccasion p))

/-- The LAU's own events (chapter 4). -/
def State.lineEvents (s : State) : List (Instr × Option Time) :=
  [(.frameSent, s.sentOccasion),
   (.jamEnd, s.jamOccasion),
   (.backoffExpiry, s.backoffOccasion),
   (.retryAttempt, s.retryOccasion),
   (.transmitTake, s.takeOccasion)]

/-- The RXP's and the LHU's own events (chapter 5). -/
def State.receiveEvents (s : State) : List (Instr × Option Time) :=
  [(.frameTake, s.dispatchOccasion),
   (.holdResend, s.resendOccasion),
   (.ownHoldExpiry, s.ownHoldOccasion)]
  ++ s.lhu.holds.map (fun h => (.holdExpiry h.peer, s.holdOccasion h.peer))

/-- The OTB's own events (chapter 6). -/
def State.channelEvents (s : State) : List (Instr × Option Time) :=
  (List.range Config.heaterBase).flatMap (fun i =>
    [(.aMatch i, s.leafChannelOccasion i Channel.aMatchAt),
     (.bMatch i, s.leafChannelOccasion i Channel.bMatchAt)])
  ++ ((List.range 4).map (Config.heaterBase + ·)).flatMap (fun i =>
    [(.pwmCompareA i, s.heaterChannelOccasion i Channel.pwmCompareAAt),
     (.pwmPeriodEnd i, s.heaterChannelOccasion i Channel.pwmPeriodEndAt)])

/-- The DLC's own events (chapter 7). -/
def State.leafEvents (s : State) : List (Instr × Option Time) :=
  s.dlc.leaves.flatMap fun l =>
    [(.leafInputFiltered l.index .cl, s.filterOccasion l.index .cl),
     (.leafInputFiltered l.index .ob, s.filterOccasion l.index .ob),
     (.lockComplete l.index, s.watchOccasion l.index .closingDrive Config.tCLSET),
     (.unlockFault l.index, s.watchOccasion l.index .locked Config.tUNLOCK),
     (.leafRecovery l.index, s.watchOccasion l.index .fault Config.tRECOVER)]

/-- The DCU's own events (chapter 8). -/
def State.doorEvents (s : State) : List (Instr × Option Time) :=
  s.dcu.schedule.map (fun i => (.doorcmdRepeat i.seq, s.repeatOccasion i.seq))
  ++ s.dcu.doorStatus.map (fun e => (.doorstatStale e.position, s.doorstatStaleOccasion e.position))
  ++ [(.doorstatPeriod, s.doorstatOccasion)]

/-- The HSU's own events (chapter 9). -/
def State.heatEvents (s : State) : List (Instr × Option Time) :=
  [(.allocationEnd, s.hsu.alloc.map Allocation.endsBy)]
  ++ s.hsu.bids.map (fun b => (.bidStale b.position, s.bidStaleOccasion b.position))
  ++ [(.settleExpiry, s.settleOccasion),
      (.holdOverExpiry, s.hsu.holdOver),
      (.heatbidPeriod, s.heatbidOccasion)]

/-- Every own event of the node with its moment, in the order of log entry 12. -/
def State.ownEvents (s : State) : List (Instr × Option Time) :=
  s.lineEvents ++ s.receiveEvents ++ s.endEvents ++ s.channelEvents ++ s.leafEvents
    ++ s.formationEvents ++ s.heatEvents ++ s.doorEvents
    ++ [(.responseReady, s.port.respBy)]

/-- An own event whose moment has come. -/
def isDue (now : Time) (x : Instr × Option Time) : Bool :=
  match x.2 with
  | some t => decide (t ≤ now)
  | none => false

/-- The first own event that is due, none in external reset. -/
def State.firstDue (s : State) : Option Instr :=
  if s.inReset then none else (s.ownEvents.find? (isDue s.now)).map Prod.fst

/-- Time passes by one bit time, in external reset too: a character being sent at its assertion ends then, and
the transmit conductors are idle (R13). -/
def State.passTime (s : State) : State := s.setNow (s.now + 1)

/-- What happens when no command waits (log entry 3): an own event that is due is queued, else a bit time passes. -/
def State.idle (s : State) : State :=
  match s.firstDue with
  | some c => { s with pending := [c] }
  | none => s.passTime

end Sys2Proof.Machine
end

