-- ==== Sys2Proof/Machine/Pins.lean ====
section
/-! DEFINITION. The output pins, read from the state: REL, DRV, WARN and the heater drives through OUT_POL
(R97, R109), DSEC (R141, R146), the notice line (R178), the data output (R170), the train line (R68, R76) and
the end links' transmit conductors (R13). No command reads them. -/

namespace Sys2Proof.Machine

/-- What the part does at an output pin. -/
inductive PinDrive where
  | released
  | low
  | high
deriving DecidableEq, Repr

/-- A logical level at a pin that OUT_POL governs; released in external reset (R97). -/
def State.polarised (s : State) (active : Bool) : PinDrive :=
  if s.inReset then .released
  else
    match s.straps.outPol, active with
    | .activeHigh, true | .activeLow, false => .high
    | .activeHigh, false | .activeLow, true => .low

/-- REL of a leaf index is active in RELEASED (R109), and inactive where no leaf is present (R107). -/
def State.relActive (s : State) (i : Nat) : Bool := (s.leaf? i).any (fun l => l.state = .released)

/-- The output level of a channel (R95). -/
def Otb.outputOf (o : Otb) (i : Nat) : Bool := (o.channel? i).any (fun c => c.output)

/-- DRV of a leaf index follows its channel's output in CLOSING_DRIVE (R109). -/
def State.drvActive (s : State) (i : Nat) : Bool :=
  (s.leaf? i).any (fun l => l.state = .closingDrive) && s.otb.outputOf i

/-- WARN of a side is active while a leaf of it is in CLOSING_WARN (R109). -/
def State.warnActive (s : State) (side : Side) : Bool :=
  s.dlc.leaves.any (fun l => leafSide l.index = side && l.state = .closingWarn)

def State.relPin (s : State) (i : Nat) : PinDrive := s.polarised (s.relActive i)
def State.drvPin (s : State) (i : Nat) : PinDrive := s.polarised (s.drvActive i)
def State.warnPin (s : State) (side : Side) : PinDrive := s.polarised (s.warnActive side)

/-- The drive pin of heater channel k (R97). -/
def State.heaterPin (s : State) (k : Nat) : PinDrive :=
  s.polarised (s.otb.outputOf (Config.heaterBase + k))

/-- DSEC is active-high, whatever OUT_POL, and released in external reset (R141, R146). -/
def State.dsecPin (s : State) : PinDrive :=
  if s.inReset then .released else if s.dcu.secureOn then .high else .low

/-- The notice line is low while a notice waits, and released in external reset (R178). -/
def State.noticeLine (s : State) : PinDrive :=
  if s.inReset then .released else if s.port.notices.isEmpty then .high else .low

/-- The data output is driven during a transaction only (R170, R176; 11 section 11.1). -/
def State.dataOutDriven (s : State) : Bool := !s.inReset && decide (s.port.phase ≠ .idle)

/-- The bit of a frame that stands `n` bit times after its first (R68, R186): most significant bit first. -/
def Frame.bitAt (f : Frame) (n : Nat) : Bool := (f.encode.getD (n / 8) 0).getMsbD (n % 8)

/-- The bit that this node drives onto the train line in SEND (R68). The jam's bits (R69) are not given. -/
def State.drivenBit (s : State) : Option Bool :=
  match s.lau.tx, s.lau.current with
  | .send t, some c => some (c.frame.bitAt (s.now - t))
  | _, _ => none

/-- Characters of an end's beacon that have gone out whole by now (R1, R5). -/
def EndLink.charsSent (l : EndLink) (now : Time) : Nat :=
  match l.sending with
  | some b => min b.chars ((now - b.startedAt) * Config.beaconChars / Config.tEBCN)
  | none => 0

/-- The bit of the end's beacon that is on its transmit conductor (R1, R5): its characters follow one another, ten
bits each; none when no character is being sent. -/
def EndLink.sendingBit (l : EndLink) (now : Time) : Option CharBit :=
  match l.sending with
  | some b =>
    let n := (now - b.startedAt) * (10 * Config.beaconChars) / Config.tEBCN
    if n / 10 < b.chars then (b.bytes[n / 10]?).bind (fun byte => (charBits byte)[n % 10]?) else none
  | none => none

end Sys2Proof.Machine
end

