-- ==== Sys2Proof/Safety.lean ====
section
/-! DEFINITION. What a safe run is, and the conditions that every step is to keep (the invariants that the
spec names: R47, R58, R84, R91, R119, R134, R137, R141, R162, R177). The proofs are the provers'. -/

namespace Sys2Proof.Machine

/-- A state in which the next step goes on: the block neither faults nor refuses. -/
def State.goesOn (s : State) : Prop := ∃ t, step s = .next t

/-- `Inv` is kept by every step. -/
def KeptBySteps (Inv : State → Prop) : Prop := ∀ s t : State, Inv s → step s = .next t → Inv t

/-! ### A started formation -/

/-- From `s` to `u` this node has started a formation (R19): the next number, a REFORM with the reason in its
slot, and GATHER. -/
def startedFormation (s u : State) (r : ReformReason) : Prop :=
  u.cc.number = s.cc.number + 1 ∧ u.cc.formState = .gather
    ∧ u.lau.reformSlot =
        some
          { kind := .reform, sender := s.id, number := s.cc.number + 1, position := 0
            payload := [reasonCode r] }

/-- An end link has reported an adjacency change (R10, R16, R20): a formation starts, except in START. -/
def reportedAdjacency (s u : State) : Prop :=
  if s.cc.formState = .start then u.cc = s.cc ∧ u.lau = s.lau else startedFormation s u .coupling

/-! ### End link receivers -/

/-- Six characters of one beacon (R1): the first begins at `earliest` or later, each has its stop bit, and each
follows the one before it with less than tEGAP of idle. -/
def beaconTrain (earliest : Time) (chars : List LineChar) : Prop :=
  chars.length = Config.beaconChars ∧ (∀ c ∈ chars, c.stop = true) ∧ (∀ c ∈ chars.head?, earliest ≤ c.start)
    ∧ (∀ p ∈ chars.zip chars.tail, p.1.start + Config.tECHR ≤ p.2.start
        ∧ p.2.start < p.1.start + Config.tECHR + Config.tEGAP)

/-- The end of the last character's stop bit, the arrival of a beacon (R1). -/
def trainEnd (chars : List LineChar) : Time :=
  match chars.getLast? with
  | some c => c.start + Config.tECHR
  | none => 0

/-- A receiver with no reception in progress (R1). -/
def EndReceiver.quiet (r : EndReceiver) : Prop := r.phase = .waiting ∨ r.phase = .afterBeacon

/-! ### The local port -/

/-- The port is in a transaction whose request is still to be clocked in (R169). -/
def State.portOpen (s : State) : Prop := s.inReset = false ∧ s.port.phase = .kind

/-- The commands that are requests of the local port (10 section 10.3). -/
def isPortRequest : Instr → Bool
  | .reform | .cabClaim _ | .cabRelease _ | .lineReset | .isolateOn _ _ | .isolateOff _ _
  | .doorIssueRelease _ _ _ _ | .doorIssueClose _ _ _ _ | .heatDemand _ _ _ | .supplyOffer _ | .status
  | .consistRead _ _ | .noticeTake | .counterRead _ | .counterDecrement _ _ | .straps
  | .unknownRequest _ => true
  | _ => false

/-- The state with a response prepared, ready within tRESP, and nothing else changed (R170). -/
def State.answered (s : State) (response : List Byte) : State :=
  { s with
    port :=
      { s.port with
        phase := .response, response := response, ready := false, respBy := some (s.now + Config.tRESP) } }

/-! ### Capacities -/

/-- The transmit store (R58). The two slots hold one frame each by their type. -/
def Lau.bounded (l : Lau) : Prop :=
  l.safety.length ≤ Config.safetyCap ∧ l.consist.length ≤ Config.consistCap
    ∧ l.supply.length ≤ Config.supplyCap

/-- Only the kinds of R58 stand in each place. -/
def Lau.kindsHeld (l : Lau) : Prop :=
  (∀ f ∈ l.reformSlot, f.kind = .reform) ∧ (∀ f ∈ l.holdSlot, f.kind = .hold)
    ∧ (∀ f ∈ l.safety, f.kind = .doorcmd ∨ f.kind = .doorstat)
    ∧ (∀ f ∈ l.consist, f.kind = .roll ∨ f.kind = .tally) ∧ (∀ f ∈ l.supply, f.kind = .heatbid)

/-- How many frames of a kind a queue holds. -/
def ofKind (k : FrameKind) (q : List Frame) : Nat := (q.filter (fun f => f.kind = k)).length

/-- At most one DOORSTAT, one ROLL and one TALLY wait (R61, R62). -/
def Lau.singles (l : Lau) : Prop :=
  ofKind .doorstat l.safety ≤ 1 ∧ ofKind .roll l.consist ≤ 1 ∧ ofKind .tally l.consist ≤ 1

/-- The whole invariant of the transmit store: R58, R61 and R62. -/
def State.storeSound (s : State) : Prop := s.lau.bounded ∧ s.lau.kindsHeld ∧ s.lau.singles

/-- Every issue scheduled repeats a DOORCMD (R132). -/
def State.scheduleSound (s : State) : Prop := ∀ i ∈ s.dcu.schedule, i.frame.kind = .doorcmd

/-- What the transmit store keeps through every step: it is sound, and only DOORCMDs are repeated into it. -/
def State.transmitSound (s : State) : Prop := s.storeSound ∧ s.scheduleSound

/-- The receive queue (R81, R84), which holds no HOLD (R79). -/
def State.receiveSound (s : State) : Prop :=
  s.rxp.queue.length ≤ Config.rxqSize ∧ ∀ f ∈ s.rxp.queue, f.kind ≠ .hold

/-- The hold list (R91): at most 4 entries, each for a distinct sender, none for this node. -/
def State.holdSound (s : State) : Prop :=
  s.lhu.holds.length ≤ Config.holdListCap ∧ (s.lhu.holds.map HoldEntry.peer).Nodup
    ∧ ∀ h ∈ s.lhu.holds, h.peer ≠ s.id

/-- The notice queue and its marker (R177). -/
def State.noticesSound (s : State) : Prop :=
  s.port.notices.length ≤ Config.noticeCap
    ∧ (s.port.lostMarker = true → s.port.notices.length = Config.noticeCap)

/-- The repeat schedule and the de-duplication table (R132, R134). -/
def State.doorTablesSound (s : State) : Prop :=
  s.dcu.schedule.length ≤ Config.scheduleCap ∧ s.dcu.dedup.length ≤ Config.dedupCap
    ∧ (s.dcu.dedup.map DedupEntry.issuer).Nodup
    ∧ ∀ d ∈ s.dcu.dedup, 1 ≤ d.seqs.length ∧ d.seqs.length ≤ Config.dedupSeqs

/-! ### Transmitter -/

/-- There is a current frame in every state of the transmitter but READY (R63, R73). -/
def State.transmitterSound (s : State) : Prop := s.lau.tx = .ready ↔ s.lau.current = none

/-! ### Consist table (R47) -/

/-- Records, links or entries that name 1 to 32 distinct node IDs, this node's among them. -/
def soundIds (own : NodeId) (ids : List NodeId) : Prop :=
  1 ≤ ids.length ∧ ids.length ≤ Config.candidateCap ∧ ids.Nodup ∧ own ∈ ids

/-- How many entries hold the cab role. -/
def activeCount (ms : List Member) : Nat := (ms.filter (fun m => m.cab = .active)).length

/-- The two invariants of R47. -/
def ConsistTable.sound (t : ConsistTable) (own : NodeId) : Prop :=
  soundIds own (t.entries.map (fun e => e.member.id))
    ∧ activeCount (t.entries.map TableEntry.member) ≤ 1

/-- The candidate table, the computation's input and the candidate order keep what R49 derives R47 from. -/
def State.consistSound (s : State) : Prop :=
  s.cc.table.sound s.id
    ∧ soundIds s.id (s.cc.candidates.map RollRecord.id)
    ∧ (∀ o ∈ s.cc.ordering, soundIds s.id (o.chain.map (fun l => l.record.id)))
    ∧ (∀ o ∈ s.cc.candidateOrder,
        soundIds s.id (o.members.map Member.id) ∧ activeCount o.members ≤ 1)

/-! ### Doors -/

/-- The DCU's copy of the summaries is that of the leaf states (R137), with one record for each leaf (R107). -/
def State.summariesCurrent (s : State) : Prop :=
  (s.dlc.leaves.map Leaf.index).Nodup ∧ s.dcu.side1 = sideSummary s.dlc.leaves .one
    ∧ s.dcu.side2 = sideSummary s.dlc.leaves .two

/-- An ordering computation that is not abandoned runs in GATHER (R28). -/
def State.orderingSound (s : State) : Prop := s.cc.ordering.isSome = true → s.cc.formState = .gather

/-- The doors-secure state is on exactly when the condition of R141 holds. -/
def State.secureExact (s : State) : Prop := s.orderingSound ∧ s.dcu.secureOn = s.doorsSecure

/-- The leaf states in which the leaf's channel runs (R119). -/
def LeafState.runs : LeafState → Bool
  | .closingWarn | .closingDrive | .reopen => true
  | .locked | .released | .fault | .isolated => false

/-- A leaf and its channel agree (R109, R119): the channel runs, with A before B, exactly in the three states
of a close, and its output is active exactly in CLOSING_DRIVE. -/
def leafAgrees (l : Leaf) (c : Channel) : Prop :=
  (c.mode = .sequence ↔ l.state.runs = true) ∧ (c.mode = .off ↔ l.state.runs = false)
    ∧ (c.output = true ↔ l.state = .closingDrive) ∧ (c.mode = .sequence → c.compareA < c.compareB)

/-- Every present leaf agrees with its channel, and the channels of absent leaves are OFF and inactive
(R95, R107). -/
def State.leavesSound (s : State) : Prop :=
  s.otb.channels.length = Config.channelCount
    ∧ (s.dlc.leaves.map Leaf.index).Nodup ∧ (∀ l ∈ s.dlc.leaves, l.index < Config.heaterBase)
    ∧ (∀ i < Config.heaterBase, ∀ c, s.otb.channel? i = some c →
        match s.leaf? i with
        | some l => leafAgrees l c
        | none => c.mode = .off ∧ c.output = false)

/-- The fault reason is present in FAULT only (R107). -/
def State.faultReasonsSound (s : State) : Prop :=
  ∀ l ∈ s.dlc.leaves, l.reason.isSome = true ↔ l.state = .fault

/-! ### Heating -/

/-- The power in watts that the loaded duties of the present heater channels set (R101, R162). -/
def State.loadedPower (s : State) : Nat :=
  ((List.range s.straps.heatCh).map (fun k =>
    match s.otb.channel? (Config.heaterBase + k) with
    | some c => c.compareA / 2 * s.straps.rating
    | none => 0)).sum

/-- What a heater channel holds of its target (R102, R163). -/
def targetLoaded (target : Nat) (c : Channel) : Prop :=
  c.mode ≠ .sequence ∧ c.compareA ≤ 2 * target ∧ (∀ a ∈ c.pendingA, a ≤ 2 * target)
    ∧ (target = 0 → c.mode = .off) ∧ (c.mode = .off → target = 0 ∧ c.compareA = 0)

/-- The target duties are those of the applied grant (R162, R163), the demands are within their ranges (R147),
no channel has loaded more than its target (R102), and no leaf is bound to a heater channel (R95). -/
def State.heatSound (s : State) : Prop :=
  s.otb.channels.length = Config.channelCount ∧ s.straps.heatCh ≤ 4
    ∧ (∀ l ∈ s.dlc.leaves, l.index < Config.heaterBase)
    ∧ s.hsu.demands.length = s.straps.heatCh
    ∧ (∀ d ∈ s.hsu.demands, d.frost + d.comfort ≤ 100)
    ∧ s.hsu.targets = s.duties
    ∧ (∀ k < s.straps.heatCh, ∀ c, s.otb.channel? (Config.heaterBase + k) = some c →
        targetLoaded (s.hsu.targets.getD k 0) c)

/-- The loaded duties never set more power than the applied grant (R162). -/
def State.powerWithinGrant (s : State) : Prop :=
  s.loadedPower ≤ 1000 * (s.hsu.applied.frost + s.hsu.applied.comfort)

/-- Settle and the bid timer run in FORMED only (R150, R158), the DOORSTAT timer likewise (R138). -/
def State.formedTimersSound (s : State) : Prop :=
  s.orderingSound ∧
  (s.isFormed = false → s.hsu.settle = none ∧ s.hsu.bidTimer = none ∧ s.dcu.doorstatTimer = none)

/-! ### Releases -/

/-- The command at the front of the queue brings a RELEASE that is accepted for a side (R130, R131, R135): a
DOORCMD of the active cab at the node's number, or a DOOR_ISSUE of this node in the cab role. -/
def State.acceptsRelease (s : State) (side : Side) : Prop :=
  s.cc.formState = .formed
    ∧ ((∃ (rest : List Instr) (f : Frame) (fs : List Frame) (c : DoorCmd), s.pending = .frameTake :: rest
          ∧ s.rxp.queue = f :: fs ∧ f.kind = .doorcmd ∧ f.number = s.cc.number
          ∧ doorCmdOf f.payload = some c ∧ c.action = .release ∧ side ∈ s.sidesOf c.side
          ∧ s.cc.table.activeCab = some f.sender ∧ s.inRange c = true)
      ∨ (∃ (rest : List Instr) (code sideByte lo hi : Byte) (d : DoorSide),
          (s.pending = .doorIssueRelease code sideByte lo hi :: rest
            ∨ s.pending = .doorIssueClose code sideByte lo hi :: rest)
          ∧ doorActionOf code = some .release ∧ doorSideOf sideByte = some d ∧ side ∈ s.sidesOf d
          ∧ s.cc.ownCab = .active ∧ lo.toNat ≤ s.ownPosition ∧ s.ownPosition ≤ hi.toNat))

end Sys2Proof.Machine
end

