-- ==== Sys2Proof/Certificates/Slice0/Obligations.lean ====
section
/-! DEFINITION. The statements for the provers, from the numbered rules of spec/. -/

section ObligationStatements

open Sys2Proof Sys2Proof.Machine

/-- A step runs the command at the front of the queue (95_what_each_step_holds.md). Model choice: log entry 4. -/
def Obligations.StepRunsFrontCommand : Prop :=
  ∀ (c : Instr) (rest : List Instr) (s : State), s.pending = c :: rest →
    step s = exec c { s with pending := rest }

/-- On an empty queue the node's own time runs (00_scope.md section 6). Model choice: log entry 3. -/
def Obligations.EmptyQueueLetsTimePass : Prop :=
  ∀ s : State, s.pending = [] →
    step s = .next
      (match s.firstDue with
        | some c => { s with pending := [c] }
        | none => { s with now := s.now + 1 })
    ∧ (s.inReset = true → s.firstDue = none)

/-- No command and no step faults or refuses (95_what_each_step_holds.md). Model choice: log entry 1, log entry
3. -/
def Obligations.NoCommandStops : Prop :=
  (∀ (c : Instr) (s : State), ∃ t, exec c s = .next t) ∧ ∀ s : State, s.goesOn

/-- The transmit store keeps its capacities, kinds and single frames, and the transmitter its frame (R58, R61,
R62, R63, R73, R132). -/
def Obligations.TransmitStoreSoundKept : Prop :=
  KeptBySteps State.transmitSound ∧ KeptBySteps State.transmitterSound

/-- The receive queue, the hold list, the notice queue and the DCU tables keep their bounds (R79, R81, R84, R91,
R132, R134, R177). -/
def Obligations.ListsSoundKept : Prop :=
  KeptBySteps State.receiveSound ∧ KeptBySteps State.holdSound ∧ KeptBySteps State.noticesSound
    ∧ KeptBySteps State.doorTablesSound

/-- Summaries follow the leaf states, a fault reason stands in FAULT only, and settle, bid and DOORSTAT timers
run in FORMED only (R107, R125, R137, R138, R150, R158). -/
def Obligations.ReportsAndTimersSoundKept : Prop :=
  KeptBySteps State.summariesCurrent ∧ KeptBySteps State.faultReasonsSound
    ∧ KeptBySteps State.formedTimersSound

/-- Loaded duties never exceed the targets of the applied grant, so they never draw more than it (R102, R161,
R162, R163). -/
def Obligations.HeatSoundKept : Prop :=
  KeptBySteps State.heatSound ∧ ∀ s : State, s.heatSound → s.powerWithinGrant

/-- The consist table always names 1 to 32 distinct nodes, this one among them, with at most one active cab
(R47, R49). -/
def Obligations.ConsistSoundKept : Prop :=
  KeptBySteps State.consistSound

/-- Doors-secure is on exactly when its condition holds (R141, R142). -/
def Obligations.SecureExactKept : Prop :=
  KeptBySteps State.secureExact

/-- A leaf's channel runs exactly while the leaf is closing, and drives it in CLOSING_DRIVE only (R119, R109,
R95). -/
def Obligations.LeavesSoundKept : Prop :=
  KeptBySteps State.leavesSound

/-- Every invariant holds at reset (R40, R57, R76, R94, R106, R127, R146, R168, R183). Model choice: log entry
5. -/
def Obligations.InvariantsHoldAtReset : Prop :=
  State.reset.storeSound ∧ State.reset.scheduleSound
    ∧ State.reset.receiveSound ∧ State.reset.holdSound ∧ State.reset.noticesSound
    ∧ State.reset.doorTablesSound ∧ State.reset.transmitterSound ∧ State.reset.consistSound
    ∧ State.reset.secureExact ∧ State.reset.leavesSound ∧ State.reset.summariesCurrent
    ∧ State.reset.faultReasonsSound ∧ State.reset.heatSound ∧ State.reset.formedTimersSound

/-- Asserting external reset stops every block and releases the pins, and releasing it starts every block (R13,
R40, R76, R94, R176, R106, R127, R146, R168, R183, R175, R57). Model choice: log entry 6. -/
def Obligations.ExternalResetAsserts : Prop :=
  (∀ s : State, s.inReset = false →
    ∃ u, exec .externalResetAssert s = .next u ∧ u.inReset = true ∧ u.pins = s.pins ∧ u.straps = s.straps
      ∧ u.pending = s.pending ∧ u.cc = { Cc.atRelease s.straps with tStart := none }
      ∧ u.lau = Lau.atRelease ∧ u.rxp.queue = [] ∧ u.rxp.receiving = false ∧ u.lhu = Lhu.atRelease
      ∧ u.otb = Otb.atRelease ∧ u.dlc.leaves = [] ∧ u.dcu.schedule = [] ∧ u.dcu.dedup = []
      ∧ u.dcu.secureOn = false ∧ u.hsu = Hsu.atRelease s.straps ∧ u.port.phase = .idle
      ∧ u.port.notices = [] ∧ (∀ k, u.port.counter k = 0)
      ∧ (∀ e, (u.endLink e).state = .openEnd ∧ (u.endLink e).debounce = none ∧ (u.endLink e).beacon = none
          ∧ (u.endLink e).loss = none)
      ∧ (∀ i, u.relPin i = .released ∧ u.drvPin i = .released)
      ∧ (∀ side, u.warnPin side = .released) ∧ (∀ k, u.heaterPin k = .released)
      ∧ u.dsecPin = .released ∧ u.noticeLine = .released ∧ u.dataOutDriven = false
      ∧ u.now = s.now ∧ u.drivenBit = none
      ∧ (∀ (e : CoachEnd) (t : Time),
        ((s.endLink e).sending = none → (u.endLink e).sendingBit t = none)
        ∧ (∀ b, (s.endLink e).sending = some b → b.startedAt ≤ s.now →
          (s.now + 521 ≤ t → (u.endLink e).sendingBit t = none)
          ∧ ((t - b.startedAt) * 6 / 3125 = (s.now - b.startedAt) * 6 / 3125 →
              (u.endLink e).sendingBit t = (s.endLink e).sendingBit t))))
    ∧ (∀ (s : State) (p : StrapPins),
    ∃ u, exec (.externalResetRelease p) s = .next u ∧ u.inReset = false ∧ u.now = 0 ∧ u.pins = s.pins
      ∧ u.pending = s.pending ∧ u.straps = Straps.latch p
      ∧ u.straps.leavesS1 = min p.leavesS1.toNat 4 ∧ u.straps.leavesS2 = min p.leavesS2.toNat 4
      ∧ u.straps.heatCh = min p.heatCh.toNat 4
      ∧ u.cc.formState = .start ∧ u.cc.number = 0 ∧ u.cc.tStart = some (Config.ms 500)
      ∧ u.cc.ownCab = .noClaim ∧ u.cc.failedCount = 0
      ∧ u.cc.candidates.map RollRecord.id = [p.serial] ∧ u.cc.earlyTallies = [] ∧ u.cc.agreement = []
      ∧ u.cc.candidateOrder = none ∧ u.cc.ordering = none ∧ u.cc.rollRepeat = none
      ∧ u.cc.tallyRepeat = none ∧ u.cc.tGather = none ∧ u.cc.tTally = none ∧ u.cc.table.stale = true
      ∧ u.cc.table.partialFlag = false ∧ u.cc.table.entries.map (fun e => e.member.id) = [p.serial]
      ∧ (∀ e, (u.endLink e).state = .openEnd ∧ (u.endLink e).debounced = false
          ∧ (u.endLink e).neighbour = none ∧ (u.endLink e).loss = none ∧ (u.endLink e).beacon = none
          ∧ (u.endLink e).sending = none ∧ (u.endLink e).rx.phase = .waiting
          ∧ (u.endLink e).debounce = if s.pins.contact e then some (Config.ms 200) else none)
      ∧ u.lau = Lau.atRelease ∧ u.rxp = Rxp.atRelease ∧ u.lhu = Lhu.atRelease ∧ u.otb = Otb.atRelease
      ∧ u.dlc.leaves.map Leaf.index
          = List.range (min p.leavesS1.toNat 4) ++ (List.range (min p.leavesS2.toNat 4)).map (· + 4)
      ∧ (∀ l ∈ u.dlc.leaves, l.obstructions = 0 ∧ l.watch = none
          ∧ (s.pins.cl.getD l.index false = true → l.state = .locked ∧ l.reason = none)
          ∧ (s.pins.cl.getD l.index false = false → l.state = .fault ∧ l.reason = some .unlocked))
      ∧ u.dcu.secureOn = false ∧ u.dcu.issueSeq = 0 ∧ u.dcu.schedule = [] ∧ u.dcu.dedup = []
      ∧ u.dcu.doorStatus = [] ∧ u.dcu.doorstatTimer = none ∧ u.dcu.doorstatOwed = none
      ∧ u.dcu.side1 = sideSummary u.dlc.leaves .one ∧ u.dcu.side2 = sideSummary u.dlc.leaves .two
      ∧ u.hsu = Hsu.atRelease (Straps.latch p)
      ∧ u.port = Port.atRelease)
    ∧ (∀ (s : State) (r : Reception), s.inReset = true →
      exec .carrierOnset s = .next (s.setPins { s.pins with peerCarrier := true })
      ∧ exec (.frameArrival r) s = .next (s.setPins { s.pins with peerCarrier := false }))

/-- A leaf becomes RELEASED only by a RELEASE accepted in FORMED at the node's number (R111, R130, R131, R135). -/
def Obligations.ReleasedOnlyByAcceptedRelease : Prop :=
  ∀ (s t : State) (i : Nat) (l m : Leaf), step s = .next t → s.leaf? i = some l → l.state ≠ .released →
    t.leaf? i = some m → m.state = .released →
    s.acceptsRelease (leafSide i) ∧ t.cc.formState = .formed ∧ t.cc.number = s.cc.number

/-- A raw input change starts or cancels its debounce or filter (R2, R108). -/
def Obligations.RawInputsRunFilters : Prop :=
  (∀ (s : State) (e : CoachEnd) (level : Bool), s.inReset = false →
      exec (.rawContactChange e level) s = .next
        ((s.setPins (s.pins.setContact e level)).setEnd e
          { s.endLink e with
            debounce :=
              if level = (s.endLink e).debounced then none
              else some ((s.endLink e).debounce.getD (s.now + Config.ms 200)) }))
    ∧ (∀ (s : State) (i : Nat) (level : Bool) (l : Leaf), s.inReset = false → s.leaf? i = some l →
      exec (.rawLeafInputChange i .cl level) s = .next
        ((s.setPins { s.pins with cl := s.pins.cl.set i level }).setDlc
          (s.dlc.put { l with
            clFilter := if level = l.cl then none else some (l.clFilter.getD (s.now + Config.ms 10)) }))
      ∧ exec (.rawLeafInputChange i .ob level) s = .next
        ((s.setPins { s.pins with ob := s.pins.ob.set i level }).setDlc
          (s.dlc.put { l with
            obFilter := if level = l.ob then none else some (l.obFilter.getD (s.now + Config.ms 10)) })))
    ∧ (∀ (s : State) (i : Nat) (input : LeafInput) (level : Bool), s.leaf? i = none →
      exec (.rawLeafInputChange i input level) s
        = .next (s.setPins (s.pins.setLeafInput i input level)))

/-- A debounced contact couples the end and sends its first beacon, and the beacons go out on schedule (R4, R5,
R190, R1). Model choice: log entry 2. -/
def Obligations.ContactCouplesAndBeaconsGoOut : Prop :=
  (∀ (s : State) (e : CoachEnd) (t : Time), s.inReset = false → (s.endLink e).debounced = false →
    (s.endLink e).debounce = some t →
    exec (.debouncedContactActive e) s = .next
      ((s.advanceTo t).setEnd e
        { debounced := true, debounce := none, state := .coupled, neighbour := none, loss := none
          rx := { quietFrom := max s.now t, phase := .waiting }
          beacon := some (max s.now t + Config.ms 50)
          sending := some { bytes := beaconOf s.id e, startedAt := max s.now t, chars := 6 } }))
    ∧ ((∀ (s : State) (e : CoachEnd) (t : Time), s.inReset = false → (s.endLink e).state ≠ .openEnd →
      (s.endLink e).beacon = some t →
      exec (.endBeaconSend e) s = .next
        ((s.advanceTo t).setEnd e
          { s.endLink e with
            beacon := some (t + Config.ms 50)
            sending := some { bytes := beaconOf s.id e, startedAt := max s.now t, chars := 6 } }))
    ∧ (∀ (id own : NodeId) (e : CoachEnd), id ≠ 0 → id ≠ own →
      beaconOf id e = bytes32 id.toNat ++ [endCode e, crc8 (bytes32 id.toNat ++ [endCode e])]
      ∧ checkBeacon own
          { senderId := id, senderEnd := endCode e, crc := crc8 (bytes32 id.toNat ++ [endCode e]) }
          = some { id := id, coachEnd := e }))
    ∧ (∀ b : Byte,
      charBits b = [.start, .data (b.getLsbD 0), .data (b.getLsbD 1), .data (b.getLsbD 2), .data (b.getLsbD 3),
        .data (b.getLsbD 4), .data (b.getLsbD 5), .data (b.getLsbD 6), .data (b.getLsbD 7), .stop]
      ∧ byteOfBits (dataBits b) = b)

/-- A valid beacon pairs, refreshes or replaces the neighbour (R7, R8, R10, R12, R20, R1, R6, R190). -/
def Obligations.ValidBeaconPairsOrRefreshes : Prop :=
  ∀ (s : State) (e : CoachEnd) (chars : List LineChar) (n : Neighbour), s.inReset = false →
    (s.endLink e).state ≠ .openEnd → (s.endLink e).rx.quiet →
    beaconTrain ((s.endLink e).rx.quietFrom + Config.ms 2) chars →
    checkBeacon s.id (beaconFields (chars.map charByte)) = some n →
    let at_ := max s.now (trainEnd chars)
    let paired : EndLink :=
      { s.endLink e with
        state := .paired, neighbour := some n, loss := some (at_ + Config.ms 150)
        rx := { quietFrom := trainEnd chars, phase := .afterBeacon } }
    ∃ u, exec (.endBeaconArrival e chars) s = .next u ∧ u.now = at_ ∧ u.endLink e = paired
      ∧ u.endLink e.other = s.endLink e.other
      ∧ ((s.endLink e).state = .paired → (s.endLink e).neighbour = some n →
          u = (s.setNow at_).setEnd e paired)
      ∧ (¬((s.endLink e).state = .paired ∧ (s.endLink e).neighbour = some n) → reportedAdjacency s u)

/-- A beacon error increments BEACON_ERRORS and does nothing else (R1, R6). Model choice: log entry 31. -/
def Obligations.BeaconErrorsOnlyCount : Prop :=
  (∀ (s : State) (e : CoachEnd) (chars : List LineChar), s.inReset = false →
      (s.endLink e).state ≠ .openEnd → (s.endLink e).rx.quiet →
      beaconTrain ((s.endLink e).rx.quietFrom + Config.ms 2) chars →
      checkBeacon s.id (beaconFields (chars.map charByte)) = none →
      exec (.endBeaconArrival e chars) s = .next
        (((s.setNow (max s.now (trainEnd chars))).setEnd e
          { s.endLink e with rx := { quietFrom := trainEnd chars, phase := .afterBeacon } }).count
            .beaconErrors))
    ∧ (∀ (s : State) (e : CoachEnd), s.inReset = false → (s.endLink e).state ≠ .openEnd →
      ¬(s.endLink e).rx.quiet →
      exec (.faultyReception e) s = .next
        (((s.advanceTo ((s.endLink e).rx.quietFrom + Config.ms 2)).setEnd e
          { s.endLink e with rx := { (s.endLink e).rx with phase := .waiting } }).count .beaconErrors))
    ∧ (∀ (r : EndReceiver) (c : LineChar),
      let next (p : ReceiverPhase) : EndReceiver := { quietFrom := c.start + 521, phase := p }
      (c.stop = false → r.take c = (next .discarding, none))
      ∧ (c.stop = true → r.quietFrom + Config.ms 2 ≤ c.start →
          r.take c = (next (.assembling [charByte c]), none))
      ∧ (c.stop = true → c.start < r.quietFrom + Config.ms 2 →
        (r.phase = .waiting → r.take c = (next .waiting, none))
        ∧ ((r.phase = .afterBeacon ∨ r.phase = .discarding) → r.take c = (next .discarding, none))
        ∧ (∀ bytes, r.phase = .assembling bytes → bytes.length ≠ 5 →
            r.take c = (next (.assembling (bytes ++ [charByte c])), none))
        ∧ (∀ bytes, r.phase = .assembling bytes → bytes.length = 5 →
            r.take c = (next .afterBeacon, some (bytes ++ [charByte c])))))
    ∧ (∀ s : State, (s.count .beaconErrors).port.counters
        = s.port.counters.set 13 (s.port.counter 13 + 1))
    ∧ (∀ (s : State) (e : CoachEnd) (chars : List LineChar), (s.endLink e).state = .openEnd →
      exec (.endBeaconArrival e chars) s = .next s ∧ exec (.faultyReception e) s = .next s)
    ∧ (∀ (own : NodeId) (b : BeaconBytes),
      (b.crc ≠ crc8 (bytes32 b.senderId.toNat ++ [b.senderEnd])
        ∨ (b.senderEnd ≠ 0x41 ∧ b.senderEnd ≠ 0x42) ∨ b.senderId = 0 ∨ b.senderId = own) →
      checkBeacon own b = none)

/-- Losing the contact opens the end, losing the beacons uncouples it, and both are reported (R3, R9, R10, R12,
R20). -/
def Obligations.EndLossesAreReported : Prop :=
  (∀ (s : State) (e : CoachEnd) (t : Time), s.inReset = false → (s.endLink e).debounced = true →
      (s.endLink e).debounce = some t →
      ∃ u, exec (.debouncedContactLost e) s = .next u ∧ (u.endLink e).state = .openEnd
        ∧ (u.endLink e).debounced = false ∧ (u.endLink e).debounce = none
        ∧ (u.endLink e).neighbour = none ∧ (u.endLink e).loss = none ∧ (u.endLink e).beacon = none
        ∧ u.endLink e.other = s.endLink e.other ∧ reportedAdjacency s u)
    ∧ (∀ (s : State) (e : CoachEnd) (t : Time), s.inReset = false → (s.endLink e).state = .paired →
      (s.endLink e).loss = some t →
      ∃ u, exec (.beaconLoss e) s = .next u
        ∧ u.endLink e = { s.endLink e with state := .coupled, neighbour := none, loss := none }
        ∧ u.endLink e.other = s.endLink e.other ∧ reportedAdjacency s u)

/-- tSTART expiry and a REFORM request start a formation (R16, R19, R21, R23, R144, R159). -/
def Obligations.FormationStartCauses : Prop :=
  (∀ (s : State) (t : Time), s.inReset = false → s.cc.formState = .start → s.cc.tStart = some t →
      ∃ u, exec .tstartExpiry s = .next u ∧ startedFormation s u .start ∧ u.cc.tStart = none
        ∧ u.endA = s.endA ∧ u.endB = s.endB ∧ u.rxp = s.rxp ∧ u.lhu = s.lhu ∧ u.otb = s.otb
        ∧ u.dlc = s.dlc ∧ u.dcu = s.dcu ∧ u.hsu = s.hsu ∧ u.port = s.port)
    ∧ (∀ s : State, s.portOpen →
      ∃ u, exec .reform s = .next u ∧ startedFormation s u .request ∧ u.port.response = [0x00]
        ∧ u.port.phase = .response ∧ u.endA = s.endA ∧ u.endB = s.endB ∧ u.rxp = s.rxp ∧ u.lhu = s.lhu
        ∧ u.otb = s.otb ∧ u.dlc = s.dlc ∧ u.port.counters = s.port.counters
        ∧ ((s.cc.formState = .formed ∨ s.cc.formState = .solo) → s.port.notices.length < 16 →
            .formationLeft (.reformed .request) ∈ u.port.notices)
        ∧ (s.cc.formState = .formed →
            u.dcu.secureOn = false ∧ u.dcu.doorstatTimer = none ∧ u.hsu.source = .hold
              ∧ u.hsu.frozen = s.hsu.applied ∧ u.hsu.applied = s.hsu.applied ∧ u.hsu.settle = none
              ∧ u.hsu.bidTimer = none ∧ u.hsu.holdOver = some (s.now + Config.ms 10000))
        ∧ (s.cc.formState ≠ .formed → u.dcu = s.dcu ∧ u.hsu = s.hsu))

/-- GATHER entry clears the collections and starts from the own record (R24, R25, R27, R39). -/
def Obligations.GatherEntryStartsAfresh : Prop :=
  ∀ s : State, s.portOpen →
    ∃ u, exec .reform s = .next u ∧ u.cc.candidates = [s.ownRecord] ∧ u.cc.earlyTallies = []
      ∧ u.cc.agreement = [] ∧ u.cc.oversize = false ∧ u.cc.candidateOrder = none
      ∧ u.cc.tallyRepeat = none ∧ u.cc.tTally = none
      ∧ u.cc.rollRepeat = some (s.now + Config.ms 100)
      ∧ u.cc.table = { s.cc.table with stale := true } ∧ u.cc.ownCab = s.cc.ownCab
      ∧ u.cc.failedCount = (if s.cc.formState = .solo then 0 else s.cc.failedCount)
      ∧ (s.endA.status = .openEnd ∧ s.endB.status = .openEnd →
          u.cc.tGather = none ∧ u.cc.ordering.isSome = true)
      ∧ (¬(s.endA.status = .openEnd ∧ s.endB.status = .openEnd) →
          u.cc.tGather = some (s.now + Config.ms 1000) ∧ u.cc.ordering = none)
      ∧ (s.storeSound → ∃ f ∈ u.lau.consist, f.kind = .roll ∧ f.payload = rollPayload s.ownRecord
          ∧ f.number = s.cc.number + 1 ∧ f.position = 0 ∧ f.sender = s.id)

/-- A frame of a newer number is adopted at its arrival, and then queued (R17, R18, R80, R82, R15). -/
def Obligations.NewerNumberIsAdopted : Prop :=
  ∀ (s : State) (r : Reception) (f : Frame), s.inReset = false → s.pins.peerCarrier = true →
    s.rxp.receiving = true → checkReception s.id r = some f → f.kind ≠ .hold →
    1 ≤ (f.number - s.cc.number).toNat → (f.number - s.cc.number).toNat ≤ 32767 →
    ∃ u, exec (.frameArrival r) s = .next u ∧ u.cc.number = f.number ∧ u.cc.formState = .gather
      ∧ u.lau.reformSlot = s.lau.reformSlot ∧ u.endA = s.endA ∧ u.endB = s.endB ∧ u.dlc = s.dlc
      ∧ u.otb = s.otb ∧ u.pins = { s.pins with peerCarrier := false } ∧ u.rxp.receiving = false
      ∧ (s.port.counters.length = 14 → u.port.counter 1 = s.port.counter 1 + 1)
      ∧ (s.rxp.queue.length < 16 → u.rxp.queue = s.rxp.queue ++ [f])

/-- The ROLL and the TALLY are queued again at each repeat (R25, R31, R54, R62). Model choice: log entry 21. -/
def Obligations.RollAndTallyRepeats : Prop :=
  (∀ (s : State) (t : Time), s.inReset = false → (s.cc.formState = .gather ∨ s.cc.formState = .tally) →
      s.cc.rollRepeat = some t → s.storeSound →
      ∃ u, exec .rollRepeat s = .next u ∧ u.cc.rollRepeat = some (t + Config.ms 100)
        ∧ u.cc.number = s.cc.number ∧ u.cc.formState = s.cc.formState
        ∧ (∃ f ∈ u.lau.consist, f.kind = .roll ∧ f.payload = rollPayload s.ownRecord
            ∧ f.number = s.cc.number ∧ f.position = 0 ∧ f.sender = s.id)
        ∧ (s.cc.formState = .tally → u.cc.candidates = s.cc.candidates)
        ∧ (s.cc.formState = .gather → s.cc.ordering = none → s.ownRecord ∈ u.cc.candidates)
        ∧ u.endA = s.endA ∧ u.endB = s.endB ∧ u.rxp = s.rxp ∧ u.lhu = s.lhu ∧ u.otb = s.otb
        ∧ u.dlc = s.dlc ∧ u.dcu = s.dcu ∧ u.hsu = s.hsu ∧ u.port = s.port)
    ∧ (∀ (s : State) (t : Time) (o : CandidateOrder), s.inReset = false → s.cc.formState = .tally →
      s.cc.tallyRepeat = some t → s.cc.candidateOrder = some o → s.storeSound →
      ∃ u, exec .tallyRepeat s = .next u ∧ u.cc = { s.cc with tallyRepeat := some (t + Config.ms 100) }
        ∧ (∃ f ∈ u.lau.consist, f.kind = .tally ∧ f.payload = tallyPayload o.tally
            ∧ f.number = s.cc.number ∧ f.position = 0 ∧ f.sender = s.id)
        ∧ u.endA = s.endA ∧ u.endB = s.endB ∧ u.rxp = s.rxp ∧ u.lhu = s.lhu ∧ u.otb = s.otb
        ∧ u.dlc = s.dlc ∧ u.dcu = s.dcu ∧ u.hsu = s.hsu ∧ u.port = s.port)

/-- Gather timeout starts the ordering computation over the fragment, PARTIAL (R29, R28). -/
def Obligations.GatherTimeoutOrdersFragment : Prop :=
  ∀ (s : State) (t : Time), s.inReset = false → s.cc.formState = .gather → s.cc.tGather = some t →
    exec .gatherTimeout s = .next
      ((s.advanceTo t).setCc
        { s.cc with
          tGather := none
          ordering := some
            { chain := chainFrom s.cc.candidates s.ownCandidate, partialFlag := true
              endsBy := max s.now t + Config.ms 4 } })

/-- The end of the ordering computation leads to TALLY, to FORMED when all positions agree, or to a failure
(R28, R31, R36, R49, R50, R143, R165, R35). Model choice: log entry 9. -/
def Obligations.OrderingEndEntersTally : Prop :=
  (∀ (s : State) (x : Time) (rest : List Time), s.inReset = false → s.cc.abandoned = x :: rest →
      exec .orderingEnd s = .next (s.setCc { s.cc with abandoned := rest }))
    ∧ (∀ (s : State) (o : OrderingRun) (p : Nat), s.inReset = false → s.cc.abandoned = [] →
      s.cc.ordering = some o → (computeOrder o.chain o.partialFlag).positionOf s.id = some p →
      let order := computeOrder o.chain o.partialFlag
      let agreed (q : Nat) : Prop := q = p ∨ ∃ t ∈ s.cc.earlyTallies, order.positionOf t.sender = some q
      let mismatch : Prop :=
        ∃ t ∈ s.cc.earlyTallies, (order.positionOf t.sender).isSome = true ∧ t.tally ≠ order.tally
      (mismatch → ∃ u, exec .orderingEnd s = .next u ∧ u.cc.failedCount = s.cc.failedCount + 1
        ∧ u.port.counters = s.port.counters.set 10 (s.port.counter 10 + 1)
        ∧ (s.cc.failedCount + 1 < 4 → startedFormation s u .mismatch)
        ∧ (4 ≤ s.cc.failedCount + 1 → u.cc.formState = .solo ∧ u.cc.number = s.cc.number))
      ∧ (¬mismatch → (∃ q, 1 ≤ q ∧ q ≤ order.members.length ∧ ¬agreed q) →
        ∃ u, exec .orderingEnd s = .next u ∧ u.cc.formState = .tally
          ∧ u.cc.candidateOrder = some order ∧ (∀ q, q ∈ u.cc.agreement ↔ agreed q)
          ∧ u.cc.earlyTallies = [] ∧ u.cc.ordering = none ∧ u.cc.tTally = some (s.now + Config.ms 500)
          ∧ u.cc.tallyRepeat = some (s.now + Config.ms 100) ∧ u.cc.table = s.cc.table
          ∧ u.cc.number = s.cc.number ∧ u.cc.ownCab = s.cc.ownCab ∧ u.dcu = s.dcu ∧ u.hsu = s.hsu
          ∧ u.port = s.port)
      ∧ (¬mismatch → (∀ q, 1 ≤ q → q ≤ order.members.length → agreed q) →
        ∃ u, exec .orderingEnd s = .next u ∧ u.cc.formState = .formed
          ∧ u.cc.table = commitTable order s.now ∧ u.cc.earlyTallies = [] ∧ u.cc.ordering = none
          ∧ u.cc.failedCount = 0 ∧ u.cc.tTally = none ∧ u.cc.tallyRepeat = none ∧ u.cc.rollRepeat = none
          ∧ u.cc.number = s.cc.number ∧ u.cc.candidates = s.cc.candidates
          ∧ u.dcu.doorStatus = [] ∧ u.hsu.bids = []
          ∧ u.hsu.settle = (if order.members.length = 1 then none else some (s.now + Config.ms 2000))
          ∧ u.dcu.doorstatTimer = some (s.now + Config.ms 250)
          ∧ u.hsu.bidTimer = some (s.now + Config.ms 1000)
          ∧ u.hsu.source = s.hsu.source ∧ u.hsu.applied = s.hsu.applied ∧ u.endA = s.endA
          ∧ u.endB = s.endB ∧ u.dlc = s.dlc ∧ u.rxp = s.rxp ∧ u.lhu = s.lhu
          ∧ (∀ m, order.members[p - 1]? = some m →
            let after (cab : OwnCab) (cabNotices : List Notice) : Prop :=
              u.cc.ownCab = cab ∧ (s.port.notices.length < 15 → ∃ more,
                u.port.notices = s.port.notices ++ cabNotices
                  ++ [.formed s.cc.number order.members.length p order.partialFlag] ++ more)
            (s.cc.ownCab = .noClaim → m.cab = .noCab → after .noClaim [])
            ∧ (s.cc.ownCab = .requested → m.cab = .active → after .active [.cabGranted])
            ∧ (s.cc.ownCab = .active → m.cab = .active → after .active [])
            ∧ (s.cc.ownCab = .requested → m.cab = .denied → after .noClaim [.cabDenied])
            ∧ (s.cc.ownCab = .active → m.cab = .denied → after .noClaim [.cabLost]))))

/-- A tally timeout counts a failure and re-forms, and the fourth failure leads to SOLO (R35, R37, R19). -/
def Obligations.TallyTimeoutFails : Prop :=
  ∀ (s : State) (t : Time), s.inReset = false → s.cc.formState = .tally → s.cc.tTally = some t →
    s.port.counters.length = 14 →
    ∃ u, exec .tallyTimeout s = .next u ∧ u.port.counter 10 = s.port.counter 10 + 1
      ∧ u.cc.failedCount = s.cc.failedCount + 1
      ∧ (s.cc.failedCount + 1 < 4 → startedFormation s u .timeout)
      ∧ (4 ≤ s.cc.failedCount + 1 →
          u.cc.formState = .solo ∧ u.cc.number = s.cc.number ∧ u.lau = s.lau
          ∧ u.cc.ownCab = (if s.cc.ownCab = .noClaim then .noClaim else .active)
          ∧ u.cc.table.entries.map (fun e => e.member.id) = [s.id]
          ∧ u.cc.table.partialFlag = true ∧ u.cc.table.stale = false ∧ u.cc.rollRepeat = none
          ∧ u.cc.tallyRepeat = none ∧ u.cc.tGather = none ∧ u.cc.tTally = none
          ∧ u.cc.earlyTallies = [] ∧ u.cc.agreement = [])
      ∧ u.endA = s.endA ∧ u.endB = s.endB ∧ u.dlc = s.dlc ∧ u.rxp = s.rxp ∧ u.lhu = s.lhu

/-- A member silent for 2000 ms is flagged and reported, and stays in the table (R51). -/
def Obligations.SilentMemberIsFlagged : Prop :=
  ∀ (s : State) (p : Nat) (e : TableEntry), s.inReset = false → s.cc.formState = .formed →
    p ≠ s.ownPosition → s.cc.table.entryAt p = some e → e.silent = false →
    exec (.memberSilent p) s = .next
        (((s.advanceTo (e.lastHeard + Config.ms 2000)).setCc
          { s.cc with
            table :=
              { s.cc.table with
                entries := s.cc.table.entries.modify (p - 1) (fun x => { x with silent := true }) } }).post
          (.memberSilent p))

/-- A CAB request is checked in order, then changes the own cab state (R21, R38, R173). Model choice: log entry
19. -/
def Obligations.CabRequestsAreChecked : Prop :=
  ∀ (s : State) (code : Byte) (i : Instr), s.portOpen → (i = .cabClaim code ∨ i = .cabRelease code) →
    (code ≠ 0x01 → code ≠ 0x02 → exec i s = .next (s.answered [0x02]))
    ∧ ((code = 0x01 ∨ code = 0x02) → s.straps.coachType.isCab = false →
        exec i s = .next (s.answered [0x05]))
    ∧ (s.straps.coachType.isCab = true → code = 0x01 → s.cc.ownCab ≠ .noClaim →
        exec i s = .next (s.answered [0x0C]))
    ∧ (s.straps.coachType.isCab = true → code = 0x02 → s.cc.ownCab = .noClaim →
        exec i s = .next (s.answered [0x0D]))
    ∧ (s.straps.coachType.isCab = true → code = 0x01 → s.cc.ownCab = .noClaim →
        ∃ u, exec i s = .next u ∧ u.port.response = [0x00]
          ∧ (s.cc.formState ≠ .solo → u.cc.ownCab = .requested ∧ startedFormation s u .cab)
          ∧ (s.cc.formState = .solo → u.cc.ownCab = .active ∧ u.cc.formState = .solo
              ∧ u.cc.number = s.cc.number ∧ u.lau = s.lau ∧ u.cc.table.partialFlag = true
              ∧ u.cc.table.stale = false
              ∧ u.cc.table.entries.map (fun e => (e.member.id, e.member.orientation, e.member.cab))
                  = [(s.id, s.straps.cabEnd, .active)]))
    ∧ (s.straps.coachType.isCab = true → code = 0x02 → s.cc.ownCab ≠ .noClaim →
        ∃ u, exec i s = .next u ∧ u.port.response = [0x00] ∧ u.cc.ownCab = .noClaim
          ∧ (s.cc.formState ≠ .solo → startedFormation s u .cab)
          ∧ (s.cc.formState = .solo → u.cc.formState = .solo ∧ u.cc.number = s.cc.number ∧ u.lau = s.lau
              ∧ u.cc.table.partialFlag = true ∧ u.cc.table.stale = false
              ∧ u.cc.table.entries.map (fun e => (e.member.id, e.member.orientation, e.member.cab))
                  = [(s.id, .a, .noCab)]))

/-- The cab arbiter grants one member, and an ACTIVE claim prevails (R42). -/
def Obligations.CabArbiterGrantsOne : Prop :=
  ∀ rs : List RollRecord, (rs.map RollRecord.id).Nodup →
    (∀ r ∈ rs, r.coachType = .trailer ∨ r.coachType = .supply ∨ r.cab = .noClaim →
      cabResult (cabGranted rs) r = .noCab)
    ∧ (∀ w ∈ rs, w.coachType.isCab = true → w.cab = .active →
        (∀ r ∈ rs, r.coachType.isCab = true → r.cab = .active → w.id.toNat ≤ r.id.toNat) →
        cabResult (cabGranted rs) w = .active
        ∧ ∀ r ∈ rs, r.id ≠ w.id → r.coachType.isCab = true → r.cab ≠ .noClaim →
            cabResult (cabGranted rs) r = .denied)
    ∧ ((∀ r ∈ rs, ¬(r.coachType.isCab = true ∧ r.cab = .active)) →
        ∀ w ∈ rs, w.coachType.isCab = true → w.cab = .requested →
        (∀ r ∈ rs, r.coachType.isCab = true → r.cab = .requested → w.id.toNat ≤ r.id.toNat) →
        cabResult (cabGranted rs) w = .active
        ∧ ∀ r ∈ rs, r.id ≠ w.id → r.coachType.isCab = true → r.cab = .requested →
            cabResult (cabGranted rs) r = .denied)

/-- Position 1, the front and the orientations follow the active cab, or else the lower chain end (R43, R44,
R45, R46, R191, 03 section 3.8). -/
def Obligations.OrderExampleTurnedCoach : Prop :=
  (∀ (c : List ChainLink) (flag : Bool),
      let order := (computeOrder c flag).members.map (fun m => (m.id, m.orientation))
      let forth := c.map (fun l => (l.record.id, l.facing))
      let back := c.reverse.map (fun l => (l.record.id, l.facing.other))
      (∀ pre l post, c = pre ++ l :: post → (∀ x ∈ pre, x.record.id ≠ l.record.id) →
        cabGranted (c.map ChainLink.record) = some l.record.id →
        (l.facing = l.record.cabEnd → order = forth)
        ∧ (l.facing ≠ l.record.cabEnd → order = back)
        ∧ (l.record.id, l.record.cabEnd) ∈ order)
      ∧ (∀ h mid t, c = h :: mid ++ [t] → cabGranted (c.map ChainLink.record) = none →
        (h.record.id.toNat ≤ t.record.id.toNat → order = forth)
        ∧ (t.record.id.toNat < h.record.id.toNat → order = back))
      ∧ (∀ l, c = [l] → cabGranted (c.map ChainLink.record) = none → order = [(l.record.id, .a)]))
    ∧ (let rec4 (id : NodeId) (a b : EndStatus) (ty : CoachType) (ce : CoachEnd) (cab : OwnCab) : RollRecord :=
      { id := id, endA := a, endB := b, coachType := ty, cabEnd := ce, cab := cab, leavesS1 := 2
        leavesS2 := 2, heaters := 0, ratedHeat := 0, supply := false }
    let e1 := rec4 0x2B000952 .openEnd (.paired 0x2B000333 .b) .cab .a .requested
    let e2 := rec4 0x2B000333 (.paired 0x2B000781 .a) (.paired 0x2B000952 .b) .trailer .a .noClaim
    let e3 := rec4 0x2B000781 (.paired 0x2B000333 .a) (.paired 0x2B000A26 .a) .cab .b .requested
    let e4 := rec4 0x2B000A26 (.paired 0x2B000781 .b) .openEnd .trailer .a .noClaim
    ∀ own ∈ [e1, e2, e3, e4],
      closed [e1, e2, e3, e4] false own = true
      ∧ (computeOrder (chainFrom [e1, e2, e3, e4] own) false).members.map
          (fun m => (m.id, m.orientation, m.cab))
          = [(0x2B000A26, .b, .noCab), (0x2B000781, .b, .active), (0x2B000333, .a, .noCab),
             (0x2B000952, .b, .denied)]
      ∧ digestString (computeOrder (chainFrom [e1, e2, e3, e4] own) false).members false
          = [0x2B, 0x00, 0x0A, 0x26, 0x02, 0x00, 0x2B, 0x00, 0x07, 0x81, 0x02, 0x02,
             0x2B, 0x00, 0x03, 0x33, 0x01, 0x00, 0x2B, 0x00, 0x09, 0x52, 0x02, 0x03, 0x00])

/-- Train-left follows the own orientation and SIDE_REF in FORMED, and is UNKNOWN elsewhere (R55, R56, R130). -/
def Obligations.SideMappingFollowsOrientation : Prop :=
  ∀ s : State,
    (s.cc.formState = .formed →
      (s.ownOrientation = .a → s.trainLeft = some s.straps.sideRef
        ∧ s.sidesOf .left = [s.straps.sideRef] ∧ s.sidesOf .right = [s.straps.sideRef.other])
      ∧ (s.ownOrientation = .b → s.trainLeft = some s.straps.sideRef.other
        ∧ s.sidesOf .left = [s.straps.sideRef.other] ∧ s.sidesOf .right = [s.straps.sideRef])
      ∧ s.sidesOf .both = [.one, .two])
    ∧ (s.cc.formState ≠ .formed → s.trainLeft = none ∧ ∀ d, s.sidesOf d = [.one, .two])

/-- A taken frame is sent if its number passes, else dropped (R63, R64, R67, R74, R77, R133). -/
def Obligations.TransmitTakeChecksNumber : Prop :=
  ∀ (s : State) (t : Time) (place : StorePlace) (f : Frame), s.inReset = false →
    s.takeOccasion = some t → (s.advanceTo t).candidate = some (place, f) →
    ∃ u, exec .transmitTake s = .next u
      ∧ ((f.number = s.cc.number ∨ f.isClose = true ∨ f.kind = .hold) →
          u.lau = { s.lau.removeHead place with
            tx := .send (max s.now t)
            current := some { frame := f, collisions := 0, late := false, cut := .uncut } }
          ∧ u.rxp = { s.rxp with receiving := false } ∧ u.dcu = s.dcu)
      ∧ (¬(f.number = s.cc.number ∨ f.isClose = true ∨ f.kind = .hold) →
          u.lau = { s.lau.removeHead place with tx := .ready, current := none } ∧ u.rxp = s.rxp
          ∧ (∀ pre i is, s.dcu.schedule = pre ++ i :: is → (∀ j ∈ pre, j.frame ≠ f) →
              f.kind = .doorcmd → i.frame = f → i.phase = .inStore →
              u.dcu.schedule = pre ++ is
                ∧ (s.port.notices.length < 16 → u.port.notices = s.port.notices ++ [.issueVoid i.seq])))
      ∧ u.port.counters = (if f.kind = .heatbid ∧ s.held = true
          then s.port.counters.set 9 (s.port.counter 9 + 1) else s.port.counters)
      ∧ u.cc = s.cc ∧ u.lhu = s.lhu ∧ u.hsu = s.hsu ∧ u.otb = s.otb ∧ u.dlc = s.dlc ∧ u.endA = s.endA
      ∧ u.endB = s.endB

/-- A retry is number-checked again, and a stale RELEASE copy voids its issue (R67, R73, R133). -/
def Obligations.RetryChecksNumberAgain : Prop :=
  ∀ (s : State) (t : Time) (c : CurrentFrame), s.inReset = false → s.lau.tx = .rewait →
    s.lau.current = some c → s.carrier = false → t = s.lau.idleFrom + s.lau.gap c.frame →
    ((c.frame.number = s.cc.number ∨ c.frame.isClose = true ∨ c.frame.kind = .hold) →
      exec .retryAttempt s = .next
        (((s.advanceTo t).setLau { s.lau with tx := .send (max s.now t) }).setRxp
          { s.rxp with receiving := false }))
    ∧ (¬(c.frame.number = s.cc.number ∨ c.frame.isClose = true ∨ c.frame.kind = .hold) →
      ∃ u, exec .retryAttempt s = .next u ∧ u.lau = { s.lau with tx := .ready, current := none }
        ∧ u.port.counters = s.port.counters ∧ u.cc = s.cc ∧ u.rxp = s.rxp ∧ u.hsu = s.hsu
        ∧ (∀ pre i is, s.dcu.schedule = pre ++ i :: is → (∀ j ∈ pre, j.frame ≠ c.frame) →
            c.frame.kind = .doorcmd → i.frame = c.frame → i.phase = .inStore →
            u.dcu.schedule = pre ++ is
              ∧ (s.port.notices.length < 16 → u.port.notices = s.port.notices ++ [.issueVoid i.seq])))

/-- The gap of a frame, the breakthrough of a bid under hold, and the range of a back-off draw (R64, R66, R70).
Model choice: log entry 7. -/
def Obligations.GapsBreakthroughAndBackoffRange : Prop :=
  (∀ (s : State) (t : Time) (f : Frame) (rest : List Frame), s.inReset = false → s.lhu.holds ≠ [] →
    s.hsu.lastBidSent = some t → s.now < t + Config.ms 2000 → s.lau.supply = f :: rest →
    s.supplyEligible = false
    ∧ exec .breakthroughEligible s = .next (s.advanceTo (t + Config.ms 2000))
    ∧ (s.advanceTo (t + Config.ms 2000)).supplyEligible = true
    ∧ (s.lau.reformSlot = none → s.lau.holdSlot = none → s.lau.safety = [] → s.lau.consist = [] →
        s.candidate = none
        ∧ (s.advanceTo (t + Config.ms 2000)).candidate = some (.supply, f)))
    ∧ ((∀ (l : Lau) (f : Frame),
      ((f.kind = .reform ∨ f.kind = .hold ∨ f.kind = .doorcmd ∨ f.kind = .doorstat) → l.gap f = 32)
      ∧ (6 ≤ l.storeCount → l.gap f = 32)
      ∧ ((f.kind = .roll ∨ f.kind = .tally ∨ f.kind = .heatbid) → l.storeCount < 6 → l.gap f = 64))
    ∧ ∀ (serial : NodeId) (k n : Nat), backoffSlots serial k n ≤ 2 ^ min n 6 - 1)

/-- Carrier defers every waiting frame and, on an idle line, begins a reception (R65, R77). -/
def Obligations.CarrierDefersAndReceives : Prop :=
  (∀ s : State, s.inReset = false → s.pins.peerCarrier = false → s.lau.driving = false →
      exec .carrierOnset s = .next
        ((s.setPins { s.pins with peerCarrier := true }).setRxp { s.rxp with receiving := true }))
    ∧ (∀ s : State, s.inReset = false → (s.pins.peerCarrier = true ∨ s.lau.driving = true) →
      exec .carrierOnset s = .next (s.setPins { s.pins with peerCarrier := true }))
    ∧ (∀ (s u : State) (f : Frame), exec .carrierOnset s = .next u →
        u.gapOccasion f = none ∧ u.takeOccasion = none ∧ u.retryOccasion = none)

/-- A frame sent is counted, frees the transmitter and gives its producer SENT (R68, R74, R89, R132, R151). -/
def Obligations.FrameSentGivesResult : Prop :=
  ∀ (s : State) (t : Time) (c : CurrentFrame), s.inReset = false → s.lau.tx = .send t →
    s.lau.current = some c → s.port.counters.length = 14 →
    ∃ u, exec .frameSent s = .next u ∧ u.now = max s.now (t + c.frame.bitTimes)
      ∧ u.lau = { s.lau with tx := .ready, current := none, idleFrom := u.now }
      ∧ u.port.counter 0 = s.port.counter 0 + 1 ∧ u.cc = s.cc ∧ u.rxp = s.rxp ∧ u.otb = s.otb
      ∧ u.dlc = s.dlc ∧ u.endA = s.endA ∧ u.endB = s.endB
      ∧ (c.frame.kind = .heatbid → u.hsu = { s.hsu with lastBidSent := some u.now })
      ∧ (c.frame.kind ≠ .heatbid → u.hsu = s.hsu)
      ∧ (c.frame.kind = .hold → u.port.counter 8 = s.port.counter 8 + 1
          ∧ (holdOf c.frame.payload = 0 → u.lhu = { s.lhu with ownHold := none, resend := none })
          ∧ (holdOf c.frame.payload ≠ 0 → s.lhu.congested = true →
              u.lhu = { s.lhu with
                ownHold := some (u.now + Config.ms 200), resend := some (u.now + Config.ms 150) })
          ∧ (holdOf c.frame.payload ≠ 0 → s.lhu.congested = false → u.lhu = s.lhu))
      ∧ (c.frame.kind ≠ .hold → u.lhu = s.lhu)
      ∧ (∀ pre i is, s.dcu.schedule = pre ++ i :: is → (∀ j ∈ pre, j.frame ≠ c.frame) →
          c.frame.kind = .doorcmd → i.frame = c.frame → i.phase = .inStore →
          (i.ended < 2 → u.dcu = { s.dcu with schedule :=
            pre ++ { i with ended := i.ended + 1, phase := .spacing (u.now + Config.ms 20) } :: is })
          ∧ (2 ≤ i.ended → u.dcu = { s.dcu with schedule := pre ++ is }))
      ∧ (c.frame.kind ≠ .doorcmd → u.dcu = s.dcu)

/-- A collision jams, and the jam's end backs off, abandons or gives up a late frame (R69, R70, R71, R72, R75,
R132). Model choice: log entry 7, log entry 17, log entry 27. -/
def Obligations.CollisionsJamAndBackOff : Prop :=
  (∀ (s : State) (t : Time) (c : CurrentFrame) (p : Nat), s.inReset = false → s.lau.tx = .send t →
      s.lau.current = some c → p ≤ c.frame.bitTimes →
      exec (.collision p) s = .next
        (((s.advanceTo (t + p)).setLau
          { s.lau with
            tx := .jam (max s.now (t + p) + 16)
            current := some
              (if 128 < p then { c with late := true } else { c with collisions := c.collisions + 1 }) }).count
          .collisions))
    ∧ (∀ (s : State) (t : Time) (c : CurrentFrame), s.inReset = false → s.lau.tx = .jam t →
      s.lau.current = some c → c.cut = .uncut → s.port.counters.length = 14 →
      (c.late = false → c.collisions < 12 →
        exec .jamEnd s = .next ((s.advanceTo t).setLau
          { s.lau with
            tx := .backoff (max s.now t + backoffSlots s.id s.lau.draws c.collisions * 128)
            idleFrom := max s.now t
            draws := s.lau.draws + 1 }))
      ∧ (c.late = true ∨ 12 ≤ c.collisions →
        ∃ u, exec .jamEnd s = .next u ∧ u.lau.tx = .ready ∧ u.lau.current = none
          ∧ (c.late = true → u.port.counter 5 = s.port.counter 5 + 1
              ∧ u.port.counter 4 = s.port.counter 4)
          ∧ (c.late = false → u.port.counter 4 = s.port.counter 4 + 1
              ∧ u.port.counter 5 = s.port.counter 5)
          ∧ u.lau.safety = s.lau.safety ∧ u.lau.consist = s.lau.consist ∧ u.lau.supply = s.lau.supply
          ∧ u.lau.reformSlot = s.lau.reformSlot
          ∧ (c.frame.kind.isUrgent = true → s.port.notices.length < 15 →
              .frameAbandoned c.frame.kind ∈ u.port.notices)
          ∧ (c.frame.kind = .hold → holdOf c.frame.payload ≠ 0 → s.lhu.congested = true →
              ∃ f, u.lau.holdSlot = some f ∧ f.kind = .hold ∧ holdOf f.payload = 200)
          ∧ (∀ pre i is, s.dcu.schedule = pre ++ i :: is → (∀ j ∈ pre, j.frame ≠ c.frame) →
              c.frame.kind = .doorcmd → i.frame = c.frame → i.phase = .inStore →
              (i.ended < 2 → u.dcu = { s.dcu with schedule :=
                pre ++ { i with ended := i.ended + 1, phase := .spacing (max s.now t + Config.ms 20) } :: is })
              ∧ (2 ≤ i.ended → u.dcu = { s.dcu with schedule := pre ++ is }))))
    ∧ (∀ (s : State) (t : Time) (c : CurrentFrame), s.inReset = false → s.lau.tx = .jam t →
      s.lau.current = some c → c.cut ≠ .uncut →
      let v := (s.advanceTo t).setLau { s.lau with tx := .ready, current := none, idleFrom := max s.now t }
      exec .jamEnd s = .next
        (if c.cut = .whileSending ∧ c.late = true then v.count .lateCollisions else v))
    ∧ (∀ (s : State) (t : Time), s.inReset = false → s.lau.tx = .backoff t →
      exec .backoffExpiry s = .next ((s.advanceTo t).setLau { s.lau with tx := .rewait }))

/-- A line reset empties the line blocks and leaves everything else (R14, R75, R93, R106, R126, R145, R167,
R174). -/
def Obligations.LineResetEmptiesLine : Prop :=
  ∀ s : State, s.portOpen →
    ∃ u, exec .lineReset s = .next u ∧ u.port.response = [0x00] ∧ u.port.phase = .response
      ∧ u.lau.reformSlot = none ∧ u.lau.holdSlot = none ∧ u.lau.safety = [] ∧ u.lau.consist = []
      ∧ u.lau.supply = [] ∧ u.rxp.queue = [] ∧ u.rxp.receiving = false ∧ u.lhu.holds = []
      ∧ u.lhu.congested = false ∧ u.lhu.ownHold = none ∧ u.dcu = { s.dcu with schedule := [] }
      ∧ (∀ t, s.lau.tx = .backoff t → u.lau.tx = .ready ∧ u.lau.current = none)
      ∧ (s.lau.tx = .rewait → u.lau.tx = .ready ∧ u.lau.current = none)
      ∧ (∀ t, (s.lau.tx = .send t ∨ s.lau.tx = .jam t) → u.lau.tx = s.lau.tx
          ∧ u.lau.current.map CurrentFrame.frame = s.lau.current.map CurrentFrame.frame)
      ∧ u.endA = s.endA ∧ u.endB = s.endB ∧ u.cc = s.cc ∧ u.otb = s.otb ∧ u.dlc = s.dlc ∧ u.hsu = s.hsu
      ∧ u.port.counters = s.port.counters ∧ u.port.notices = s.port.notices
      ∧ u.port.lostMarker = s.port.lostMarker ∧ u.straps = s.straps

/-- A reception is counted and routed by its checks, its kind and its number (R77, R78, R79, R80, R17, R22, R52,
R82, R88). -/
def Obligations.ArrivalsAreCheckedAndRouted : Prop :=
  ∀ (s : State) (r : Reception), s.inReset = false → s.pins.peerCarrier = true →
    (s.rxp.receiving = false →
      exec (.frameArrival r) s = .next
        ((s.setPins { s.pins with peerCarrier := false }).setLau { s.lau with idleFrom := s.now }))
    ∧ (s.rxp.receiving = true →
      let v := ((s.setPins { s.pins with peerCarrier := false }).setLau
        { s.lau with idleFrom := s.now }).setRxp { s.rxp with receiving := false }
      (checkReception s.id r = none → exec (.frameArrival r) s = .next (v.count .checkErrors))
      ∧ (∀ f, checkReception s.id r = some f → f.kind = .hold →
          exec (.frameArrival r) s = .next ((v.count .framesReceived).setLhu
            { s.lhu with holds := holdListAfter s.lhu.holds f.sender (holdOf f.payload) s.now }))
      ∧ (∀ f, checkReception s.id r = some f → f.kind ≠ .hold → f.number ≠ s.cc.number →
          isNewer f.number s.cc.number = false → f.isClose = false →
          exec (.frameArrival r) s = .next (v.count .staleFrames))
      ∧ (∀ f, checkReception s.id r = some f → f.kind ≠ .hold →
          (f.number = s.cc.number ∨ (isNewer f.number s.cc.number = false ∧ f.isClose = true)) →
          ∃ u, exec (.frameArrival r) s = .next u ∧ u.rxp.receiving = false ∧ u.endA = s.endA
            ∧ u.endB = s.endB ∧ u.dlc = s.dlc ∧ u.otb = s.otb
            ∧ (s.port.counters.length = 14 → u.port.counter 1 = s.port.counter 1 + 1)
            ∧ (s.rxp.queue.length < 16 → u.rxp.queue = s.rxp.queue ++ [f])
            ∧ (s.rxp.queue.length = 11 → s.lhu.congested = false →
                u.lhu = { s.lhu with congested := true }
                ∧ ∃ h, u.lau.holdSlot = some h ∧ h.kind = .hold ∧ holdOf h.payload = 200
                    ∧ h.number = u.cc.number)
            ∧ (s.rxp.queue.length ≠ 11 ∨ s.lhu.congested = true → u.lhu = s.lhu)
            ∧ ((f.number ≠ s.cc.number ∨ s.cc.formState ≠ .formed) → u.cc = s.cc)
            ∧ (f.number = s.cc.number → s.cc.formState = .formed →
              (∀ p, s.cc.table.positionOf f.sender = some p →
                u.cc = { s.cc with table := { s.cc.table with entries := s.cc.table.entries.map (fun x =>
                  if x.member.id = f.sender then { x with silent := false, lastHeard := s.now } else x) } }
                ∧ (∀ x, s.cc.table.entryAt p = some x → x.silent = true → s.port.notices.length < 15 →
                    .memberHeard p ∈ u.port.notices))
              ∧ (s.cc.table.positionOf f.sender = none → s.cc.table.partialFlag = true → u.cc = s.cc)
              ∧ (s.cc.table.positionOf f.sender = none → s.cc.table.partialFlag = false →
                  startedFormation s u .stranger))))

/-- A frame encoded on the line is read back as it was built (R78, R186, R187). -/
def Obligations.OwnFramesPassTheChecks : Prop :=
  ∀ (own : NodeId) (f : Frame), f.payload.length = f.kind.payloadLength → f.position.toNat ≤ 32 →
    f.sender ≠ 0 → f.sender ≠ own →
    f.encode.length = max 16 (11 + f.payload.length)
    ∧ checkReception own { bytes := f.encode, extraBits := 0 } = some f

/-- The head of the receive queue is handed over at an equal number, else discarded, and the CC acts on a ROLL
or a TALLY (R85, R86, R90, R26, R27, R32, R33, R34, R36, R189). Model choice: log entry 18. -/
def Obligations.HeadIsTakenOrDiscarded : Prop :=
  (∀ (s : State) (f : Frame) (rest : List Frame), s.inReset = false → s.rxp.queue = f :: rest →
    (s.consumerBusy f.kind = true → exec .frameTake s = .next s)
    ∧ (s.consumerBusy f.kind = false →
      let v := s.setRxp { s.rxp with queue := rest }
      let w := if rest.length = 4 ∧ s.lhu.congested = true
        then (v.setLhu { s.lhu with congested := false, ownHold := none, resend := none }).submitHold 0
        else v
      (f.number ≠ s.cc.number → f.hasCloseAction = false → exec .frameTake s = .next (w.count .staleFrames))
      ∧ (f.number = s.cc.number → f.kind = .reform → exec .frameTake s = .next w)
      ∧ (f.number = s.cc.number ∨ f.hasCloseAction = true → exec .frameTake s = .next (w.consume f))))
    ∧ (∀ (s : State) (f : Frame) (rest : List Frame), s.inReset = false → s.rxp.queue = f :: rest →
      f.number = s.cc.number → s.ccBusy = false →
      let v := (s.setRxp { s.rxp with queue := rest }).noteFall rest.length
      (f.kind = .roll →
        (rollOf f.sender f.payload = none → exec .frameTake s = .next v)
        ∧ (∀ r, rollOf f.sender f.payload = some r →
          ((s.cc.formState = .start ∨ s.cc.formState = .solo) → exec .frameTake s = .next v)
          ∧ ((s.cc.formState = .tally ∨ s.cc.formState = .formed) →
            ((∀ x, recordOf s.cc.candidates r.id = some x → x = r) → exec .frameTake s = .next v)
            ∧ (∀ x, recordOf s.cc.candidates r.id = some x → x ≠ r →
                ∃ u, exec .frameTake s = .next u ∧ startedFormation s u .rollChanged))
          ∧ (s.cc.formState = .gather →
            (recordOf s.cc.candidates r.id = none → 32 ≤ s.cc.candidates.length →
              exec .frameTake s = .next
                (if s.cc.oversize then v
                else (v.setCc { s.cc with oversize := true }).post .candidateOverflow))
            ∧ ((recordOf s.cc.candidates r.id ≠ none ∨ s.cc.candidates.length < 32) →
              ∃ u, exec .frameTake s = .next u
                ∧ u.cc.candidates = (if (recordOf s.cc.candidates r.id).isSome
                    then s.cc.candidates.map (fun x => if x.id = r.id then r else x)
                    else s.cc.candidates ++ [r])
                ∧ (closed u.cc.candidates s.cc.oversize u.ownCandidate = true → u.cc.tGather = none
                    ∧ u.cc.ordering = some
                        { chain := chainFrom u.cc.candidates u.ownCandidate, partialFlag := false
                          endsBy := s.now + Config.ms 4 })
                ∧ (closed u.cc.candidates s.cc.oversize u.ownCandidate = false → u.cc.ordering = none
                    ∧ u.cc.tGather = s.cc.tGather)
                ∧ u.cc.formState = .gather ∧ u.cc.number = s.cc.number
                ∧ u.cc.earlyTallies = s.cc.earlyTallies ∧ u.cc.agreement = s.cc.agreement
                ∧ u.cc.table = s.cc.table ∧ u.port = s.port ∧ u.dcu = s.dcu ∧ u.hsu = s.hsu))))
      ∧ (f.kind = .tally →
        (tallyOf f.payload = none → exec .frameTake s = .next v)
        ∧ (∀ t, tallyOf f.payload = some t →
          ((s.cc.formState = .start ∨ s.cc.formState = .formed ∨ s.cc.formState = .solo) →
            exec .frameTake s = .next v)
          ∧ (s.cc.formState = .gather →
            let kept : List EarlyTally :=
              if s.cc.earlyTallies.any (fun x => x.sender = f.sender) then
                s.cc.earlyTallies.map
                  (fun x => if x.sender = f.sender then { sender := f.sender, tally := t } else x)
              else if s.cc.earlyTallies.length < 32 then
                s.cc.earlyTallies ++ [{ sender := f.sender, tally := t }]
              else s.cc.earlyTallies
            exec .frameTake s = .next (v.setCc { s.cc with earlyTallies := kept }))
          ∧ (∀ o, s.cc.formState = .tally → s.cc.candidateOrder = some o →
            (o.positionOf f.sender = none → exec .frameTake s = .next v)
            ∧ (∀ p, o.positionOf f.sender = some p → t ≠ o.tally →
                exec .frameTake s = .next (v.failFormation .mismatch))
            ∧ (∀ p, o.positionOf f.sender = some p → t = o.tally →
                let set := if p ∈ s.cc.agreement then s.cc.agreement else s.cc.agreement ++ [p]
                ((∃ q, 1 ≤ q ∧ q ≤ o.members.length ∧ q ∉ set) →
                  exec .frameTake s = .next (v.setCc { s.cc with agreement := set }))
                ∧ ((∀ q, 1 ≤ q → q ≤ o.members.length → q ∈ set) →
                  ∃ u, exec .frameTake s = .next u ∧ u.cc.formState = .formed
                    ∧ u.cc.table = commitTable o s.now ∧ u.cc.number = s.cc.number
                    ∧ u.dcu.doorStatus = [] ∧ u.hsu.bids = []))))))

/-- A REFORM acts at its sighting only, and one of an equal number adopts nothing (R30). -/
def Obligations.ReformTakenHasNoEffect : Prop :=
  (∀ (s : State) (f : Frame), f.kind = .reform → s.consume f = s)
    ∧ (∀ (s : State) (f : Frame), f.kind = .reform → f.number = s.cc.number →
        s.cc.formState ≠ .formed → s.sight f = s)
    ∧ (∀ (s : State) (f : Frame), f.kind = .reform → f.number = s.cc.number →
        (s.sight f).cc.number = s.cc.number
        ∨ (s.cc.formState = .formed ∧ startedFormation s (s.sight f) .stranger))
    ∧ (∀ (s : State) (f : Frame) (rest : List Frame), s.inReset = false → s.rxp.queue = f :: rest →
        f.kind = .reform → s.ccBusy = false →
        let w := (s.setRxp { s.rxp with queue := rest }).noteFall rest.length
        (f.number = s.cc.number → exec .frameTake s = .next w)
        ∧ (f.number ≠ s.cc.number → exec .frameTake s = .next (w.count .staleFrames)))
    ∧ (∀ (s : State) (f : Frame), f.kind = .reform → isNewer f.number s.cc.number = true →
        (s.sight f).cc.number = f.number)

/-- The own hold is sent again at 50 ms and stops at zero, and a peer's hold runs out (R89, R92). -/
def Obligations.HoldTimersRunOut : Prop :=
  (∀ (s : State) (t e : Time), s.inReset = false → s.lhu.congested = true → s.lhu.ownHold = some e →
      s.lhu.resend = some t →
      ∃ u, exec .holdResend s = .next u ∧ u.lhu = { s.lhu with resend := none }
        ∧ (∃ f, u.lau = { s.lau with holdSlot := some f } ∧ f.kind = .hold ∧ holdOf f.payload = 200
            ∧ f.number = s.cc.number)
        ∧ u.cc = s.cc ∧ u.rxp = s.rxp ∧ u.dcu = s.dcu ∧ u.hsu = s.hsu ∧ u.port = s.port)
    ∧ (∀ (s : State) (e : Time), s.inReset = false → s.lhu.ownHold = some e → s.lhu.resend = none →
      exec .ownHoldExpiry s = .next ((s.advanceTo e).setLhu { s.lhu with ownHold := none }))
    ∧ (∀ (s : State) (h : HoldEntry), s.inReset = false →
      s.lhu.holds.find? (fun x => x.peer = h.peer) = some h →
      exec (.holdExpiry h.peer) s = .next ((s.advanceTo h.expiresAt).setLhu
        { s.lhu with holds := s.lhu.holds.filter (fun x => x.peer ≠ h.peer) }))

/-- A full receive queue gives way to SAFETY frames and by RX_POLICY to others, and a HOLD sets, replaces or
removes an entry (R83, R84, R91, R80, R82, R88). Model choice: log entry 20. -/
def Obligations.FullListsMakeRoom : Prop :=
  (∀ (policy : RxPolicy) (q : List Frame) (f : Frame),
      (∀ (pre post : List Frame) (x : Frame), q = pre ++ x :: post →
        (∀ g ∈ pre, g.kind.isSafety = true) → x.kind.isSafety = false →
        (f.kind.isSafety = true ∨ policy = .keepNew) → fullPolicy policy q f = pre ++ post ++ [f])
      ∧ ((∀ g ∈ q, g.kind.isSafety = true) → fullPolicy policy q f = q)
      ∧ (f.kind.isSafety = false → policy = .keepOld → fullPolicy policy q f = q))
    ∧ (∀ (hs : List HoldEntry) (peer : NodeId) (ms : Nat) (now : Time),
      (hs.map HoldEntry.peer).Nodup →
      (ms = 0 → holdListAfter hs peer ms now = hs.filter (fun h => h.peer ≠ peer))
      ∧ (0 < ms → (peer ∈ hs.map HoldEntry.peer ∧ hs.length ≤ 4 ∨ hs.length < 4) →
          holdListAfter hs peer ms now
            = hs.filter (fun h => h.peer ≠ peer)
              ++ [{ peer := peer, expiresAt := now + min ms 1000 * 1000 }])
      ∧ (∀ (pre post : List HoldEntry) (x : HoldEntry), 0 < ms → peer ∉ hs.map HoldEntry.peer →
          hs.length = 4 → hs = pre ++ x :: post → (∀ h ∈ pre, x.expiresAt < h.expiresAt) →
          (∀ h ∈ post, x.expiresAt ≤ h.expiresAt) →
          holdListAfter hs peer ms now
            = pre ++ post ++ [{ peer := peer, expiresAt := now + min ms 1000 * 1000 }]))
    ∧ (∀ (s : State) (r : Reception) (f : Frame), s.inReset = false → s.pins.peerCarrier = true →
      s.rxp.receiving = true → checkReception s.id r = some f → f.kind ≠ .hold →
      (f.number = s.cc.number ∨ isNewer f.number s.cc.number = true ∨ f.isClose = true) →
      16 ≤ s.rxp.queue.length →
      ∃ u, exec (.frameArrival r) s = .next u
        ∧ u.rxp.queue = fullPolicy s.straps.rxPolicy s.rxp.queue f
        ∧ (s.port.counters.length = 14 → u.port.counter 6 = s.port.counter 6 + 1
            ∧ u.port.counter 1 = s.port.counter 1 + 1)
        ∧ u.lhu = s.lhu ∧ u.straps = s.straps ∧ u.endA = s.endA ∧ u.endB = s.endB ∧ u.dlc = s.dlc)

/-- An A-match begins the drive or takes the obstruction that stands, and a B-match is the fault LOCK_TIMEOUT
(R99, R114, R116, R118, R121, R98). -/
def Obligations.LeafRunMatches : Prop :=
  (∀ (s : State) (i : Nat) (c : Channel) (l : Leaf), s.inReset = false → i < 8 →
    s.otb.channel? i = some c → s.leaf? i = some l → c.mode = .sequence →
    s.port.counters.length = 14 → s.port.notices.length < 15 →
    (c.compareA < c.compareB → c.output = false → (l.state = .closingWarn ∨ l.state = .reopen) →
      ∃ u, exec (.aMatch i) s = .next u ∧ u.now = max s.now (c.since + (c.compareA - c.base) * 1000)
        ∧ u.cc = s.cc ∧ u.hsu = s.hsu ∧ u.rxp = s.rxp ∧ u.lhu = s.lhu ∧ u.endA = s.endA ∧ u.endB = s.endB
        ∧ (l.ob = false → u.port.counters = s.port.counters
          ∧ u.leaf? i = some
              { l with state := .closingDrive, watch := if l.cl then some u.now else none }
          ∧ u.otb.channel? i = some { c with output := true })
        ∧ (l.ob = true → l.obstructions + 1 < 3 → u.port.counters = s.port.counters
          ∧ u.leaf? i = some
              { l with state := .reopen, watch := none, obstructions := l.obstructions + 1 }
          ∧ u.otb.channel? i = some
              { c with base := 0, since := u.now, compareA := 2000, compareB := 10000, output := false })
        ∧ (l.ob = true → 3 ≤ l.obstructions + 1 →
          u.port.counters = s.port.counters.set 12 (s.port.counter 12 + 1)
          ∧ .leafFault i .obstructed ∈ u.port.notices
          ∧ u.leaf? i = some
              { l with
                state := .fault, reason := some .obstructed, obstructions := l.obstructions + 1
                watch := if l.cl then some u.now else none }
          ∧ u.otb.channel? i = some { c with mode := .off, base := 0, output := false }))
    ∧ ((c.compareA < c.compareB → c.output = true) → l.state = .closingDrive →
      ∃ u, exec (.bMatch i) s = .next u ∧ u.now = max s.now (c.since + (c.compareB - c.base) * 1000)
        ∧ u.cc = s.cc ∧ u.hsu = s.hsu ∧ u.rxp = s.rxp ∧ u.lhu = s.lhu ∧ u.endA = s.endA ∧ u.endB = s.endB
        ∧ u.port.counters = s.port.counters.set 12 (s.port.counter 12 + 1)
        ∧ .leafFault i .lockTimeout ∈ u.port.notices
        ∧ u.leaf? i = some
            { l with
              state := .fault, reason := some .lockTimeout
              watch := if l.cl then some u.now else none }
        ∧ u.otb.channel? i = some { c with mode := .off, base := 0, output := false }))
    ∧ (∀ (c : Channel) (now : Time) (a b : Nat),
      let run := c.startRun now a b
      run = { c with
        mode := .sequence, base := 0, since := now, compareA := a, compareB := b
        output := decide (a = 0 ∧ a < b) }
      ∧ (0 < a → a < b → run.aMatchAt = some (now + a * 1000))
      ∧ (a = 0 ∨ b ≤ a → run.aMatchAt = none)
      ∧ (a = 0 ∨ b ≤ a → run.bMatchAt = some (now + b * 1000)))
    ∧ (∀ (s : State) (i a b : Nat),
      s.takeStartMatches [(i, .start a b)] = if a = 0 ∧ a < b then s.takeAMatch i else s)

/-- A heater period's active part ends at compare A, and the next period loads what was pending (R101, R105).
Model choice: log entry 21. -/
def Obligations.HeaterPeriodsRunOn : Prop :=
  (∀ (s : State) (i : Nat) (c : Channel), s.inReset = false → 8 ≤ i → s.otb.channel? i = some c →
      c.mode = .pwm → c.output = true → c.compareA < c.compareB →
      exec (.pwmCompareA i) s = .next
        ((s.advanceTo (c.since + (c.compareA - c.base) * 1000)).setOtb
          { channels := s.otb.channels.set i { c with output := false } }))
    ∧ (∀ (s : State) (i : Nat) (c : Channel), s.inReset = false → 8 ≤ i → s.otb.channel? i = some c →
      c.mode = .pwm → (c.output = false ∨ c.compareB ≤ c.compareA) →
      let a := c.pendingA.getD c.compareA
      let ended := c.since + (c.compareB - c.base) * 1000
      (c.pendingOffset = none →
        exec (.pwmPeriodEnd i) s = .next
          ((s.advanceTo ended).setOtb
            { channels := s.otb.channels.set i
                { c with
                  base := 0, since := ended, compareA := a, compareB := 2000, pendingA := none
                  output := decide (0 < a) } }))
      ∧ (∀ o, c.pendingOffset = some o →
        exec (.pwmPeriodEnd i) s = .next
          ((s.advanceTo ended).setOtb
            { channels := s.otb.channels.set i
                { c with
                  base := 0, since := ended, compareA := a
                  compareB := 2000 + (o + (2000 - c.offset % 2000)) % 2000, pendingA := none
                  output := decide (0 < a), offset := o, pendingOffset := none } })))

/-- A duty decrease acts at once, an increase waits, and a stagger setting places each heater channel (R101,
R102, R104, R103, R163). -/
def Obligations.DutyWritesAndStagger : Prop :=
  (∀ (c : Channel) (now : Time) (duty : Nat),
      let w := 2 * min duty 1000
      (c.mode = .pwm → w ≤ c.compareA →
        c.writeDuty now duty =
          { c with
            compareA := w, pendingA := none
            output := c.output && decide (c.base + (now - c.since) / 1000 < w) })
      ∧ (c.mode = .pwm → c.compareA < w → c.writeDuty now duty = { c with pendingA := some w })
      ∧ (c.mode = .off →
        (c.writeDuty now duty).mode = .pwm ∧ (c.writeDuty now duty).compareA = 0
          ∧ (c.writeDuty now duty).compareB = 2000 ∧ (c.writeDuty now duty).output = false
          ∧ (c.writeDuty now duty).pendingA = (if w = 0 then none else some w)
          ∧ (c.writeDuty now duty).offset = c.offset
          ∧ (c.writeDuty now duty).counterAt now = (now / 1000 % 2000 + (2000 - c.offset % 2000)) % 2000))
    ∧ (∀ (o : Otb) (heaters p n k : Nat) (c : Channel), 1 ≤ p → p ≤ n → n ≤ 32 → k < heaters →
      o.channel? (8 + k) = some c →
      let off := ((p - 1) * 2000 / n + k * 500) % 2000
      (off = c.offset →
        (o.stagger heaters p n).channel? (8 + k) = some { c with pendingOffset := none })
      ∧ (off ≠ c.offset → c.mode = .off →
        (o.stagger heaters p n).channel? (8 + k) = some { c with offset := off })
      ∧ (off ≠ c.offset → c.mode = .pwm →
        (o.stagger heaters p n).channel? (8 + k) = some { c with pendingOffset := some off }))
    ∧ (∀ (o : Otb) (heaters p n : Nat), ¬(1 ≤ p ∧ p ≤ n ∧ n ≤ 32) → o.stagger heaters p n = o)
    ∧ (∀ (o : Otb) (heaters p n i : Nat), (i < 8 ∨ 8 + heaters ≤ i) →
      (o.stagger heaters p n).channel? i = o.channel? i)
    ∧ (∀ c : Channel,
      (c.mode = .pwm → c.stopPwm =
        { c with
          mode := .off, base := 0, output := false, compareA := 0, pendingA := none
          offset := c.pendingOffset.getD c.offset, pendingOffset := none })
      ∧ (c.mode = .off → c.stopPwm = c))
    ∧ (∀ (s : State), s.convertDuties.hsu = { s.hsu with targets := s.duties }
      ∧ (∀ i, i < 8 → s.convertDuties.otb.channel? i = s.otb.channel? i)
      ∧ (∀ (k old target : Nat) (c : Channel), s.hsu.targets[k]? = some old → s.duties[k]? = some target →
          s.otb.channel? (8 + k) = some c →
          (target = old → s.convertDuties.otb.channel? (8 + k) = some c)
          ∧ (target ≠ old → target = 0 → s.convertDuties.otb.channel? (8 + k) = some c.stopPwm)
          ∧ (target ≠ old → 0 < target →
              s.convertDuties.otb.channel? (8 + k) = some (c.writeDuty s.now target))))

/-- A filtered input feeds the CL watch or is an obstruction, and the watches lock, fault and recover the leaf
(R108, R115, R116, R120, R121, R122). -/
def Obligations.LeafInputsAndWatchesAct : Prop :=
  ∀ (s : State) (i : Nat) (l : Leaf) (t : Time), s.inReset = false → s.leaf? i = some l →
    (l.clFilter = some t →
      exec (.leafInputFiltered i .cl) s = .next
        ((s.advanceTo t).setDlc (s.dlc.put
          { l with
            cl := !l.cl, clFilter := none
            watch :=
              if l.state = .closingDrive ∨ l.state = .fault then
                if l.cl then none else some (max s.now t)
              else if l.state = .locked then if l.cl then some (max s.now t) else none
              else l.watch })))
    ∧ (l.obFilter = some t → (l.ob = true ∨ l.state ≠ .closingDrive) →
      exec (.leafInputFiltered i .ob) s = .next
        ((s.advanceTo t).setDlc (s.dlc.put { l with ob := !l.ob, obFilter := none })))
    ∧ (l.obFilter = some t → l.ob = false → l.state = .closingDrive → s.port.counters.length = 14 →
      ∃ u, exec (.leafInputFiltered i .ob) s = .next u
        ∧ (l.obstructions + 1 < 3 → u.port.counters = s.port.counters
          ∧ u.leaf? i = some
            { l with
              state := .reopen, watch := none, obstructions := l.obstructions + 1, ob := true
              obFilter := none })
        ∧ (3 ≤ l.obstructions + 1 → u.port.counters = s.port.counters.set 12 (s.port.counter 12 + 1)
          ∧ u.leaf? i = some
            { l with
              state := .fault, reason := some .obstructed, obstructions := l.obstructions + 1, ob := true
              obFilter := none, watch := if l.cl then some (max s.now t) else none }))
    ∧ (l.state = .closingDrive → l.watch = some t →
      ∃ u, exec (.lockComplete i) s = .next u ∧ u.now = max s.now (t + Config.ms 50)
        ∧ u.port.counters = s.port.counters ∧ u.cc = s.cc ∧ u.hsu = s.hsu
        ∧ u.leaf? i = some
            { l with state := .locked, reason := none, watch := if l.cl then none else some u.now }
        ∧ ∀ c, s.otb.channel? i = some c → c.mode = .sequence →
            u.otb.channel? i = some { c with mode := .off, base := 0, output := false })
    ∧ (l.state = .locked → l.watch = some t →
      ∃ u, exec (.unlockFault i) s = .next u ∧ u.now = max s.now (t + Config.ms 200)
        ∧ u.port.counters = s.port.counters.set 12 (s.port.counter 12 + 1) ∧ u.cc = s.cc ∧ u.hsu = s.hsu
        ∧ (s.port.notices.length < 15 → .leafFault i .unlocked ∈ u.port.notices)
        ∧ u.leaf? i = some
            { l with
              state := .fault, reason := some .unlocked, watch := if l.cl then some u.now else none })
    ∧ (l.state = .fault → l.watch = some t →
      ∃ u, exec (.leafRecovery i) s = .next u ∧ u.now = max s.now (t + Config.ms 1000)
        ∧ u.port.counters = s.port.counters ∧ u.cc = s.cc ∧ u.hsu = s.hsu
        ∧ (s.port.notices.length < 16 → .leafRecovered i ∈ u.port.notices)
        ∧ u.leaf? i = some
            { l with state := .locked, reason := none, watch := if l.cl then none else some u.now })

/-- ISOLATE on isolates a leaf from any state, and ISOLATE off returns it by its CL (R123, R124, R184). Model
choice: log entry 19. -/
def Obligations.IsolationTakesLeafOut : Prop :=
  ∀ (s : State) (leaf code : Byte) (i : Instr), s.portOpen →
    (i = .isolateOn leaf code ∨ i = .isolateOff leaf code) →
    (code ≠ 0x00 → code ≠ 0x01 → exec i s = .next (s.answered [0x02]))
    ∧ ((code = 0x00 ∨ code = 0x01) → s.leaf? leaf.toNat = none → exec i s = .next (s.answered [0x09]))
    ∧ (∀ l, code = 0x01 → s.leaf? leaf.toNat = some l →
      ∃ u, exec i s = .next u ∧ u.port.response = [0x00] ∧ u.port.counters = s.port.counters
        ∧ u.leaf? leaf.toNat = some
            { l with state := .isolated, reason := none, obstructions := 0, watch := none }
        ∧ (∀ j, j ≠ leaf.toNat → u.leaf? j = s.leaf? j)
        ∧ (∀ c, s.otb.channel? leaf.toNat = some c → c.mode = .sequence →
            u.otb.channel? leaf.toNat = some { c with mode := .off, base := 0, output := false })
        ∧ u.cc = s.cc ∧ u.hsu = s.hsu ∧ u.rxp = s.rxp ∧ u.lhu = s.lhu)
    ∧ (∀ l, code = 0x00 → s.leaf? leaf.toNat = some l → l.state ≠ .isolated →
      exec i s = .next (s.answered [0x00]))
    ∧ (∀ l, code = 0x00 → s.leaf? leaf.toNat = some l → l.state = .isolated →
      ∃ u, exec i s = .next u ∧ u.port.response = [0x00]
        ∧ (l.cl = true → u.port.counters = s.port.counters
          ∧ u.leaf? leaf.toNat = some { l with state := .locked, reason := none, watch := none })
        ∧ (l.cl = false → u.port.counters = s.port.counters.set 12 (s.port.counter 12 + 1)
          ∧ (s.port.notices.length < 15 → .leafFault leaf.toNat .unlocked ∈ u.port.notices)
          ∧ u.leaf? leaf.toNat = some
              { l with state := .fault, reason := some .unlocked, watch := none })
        ∧ (∀ j, j ≠ leaf.toNat → u.leaf? j = s.leaf? j)
        ∧ u.cc = s.cc ∧ u.hsu = s.hsu ∧ u.rxp = s.rxp ∧ u.lhu = s.lhu)

/-- A RELEASE needs FORMED and the number of its acceptance, a CLOSE acts in every formation state, and a
DOORCMD taken is judged once (R110, R111, R112, R113, R134, R135, R136, R189, R86). Model choice: log entry
20. -/
def Obligations.LeafCommandsAct : Prop :=
  (∀ (s : State) (sides : List Side) (number : FormationNumber),
    (¬(s.cc.formState = .formed ∧ number = s.cc.number) → s.releaseLeaves sides number = s)
    ∧ (s.cc.formState = .formed → number = s.cc.number → ∀ i l, s.leaf? i = some l →
      let u := s.releaseLeaves sides number
      (sides.contains (leafSide i) = true →
        (l.state = .locked ∨ l.state = .closingWarn ∨ l.state = .closingDrive ∨ l.state = .reopen) →
        u.leaf? i = some { l with state := .released, watch := none }
        ∧ (s.leavesSound → ∀ c, u.otb.channel? i = some c → c.mode = .off ∧ c.output = false))
      ∧ (sides.contains (leafSide i) = false ∨ l.state = .released ∨ l.state = .fault
          ∨ l.state = .isolated → u.leaf? i = some l))
    ∧ (∀ i l, s.leaf? i = some l →
      let u := s.closeLeaves sides
      (sides.contains (leafSide i) = true → (l.state = .released ∨ l.state = .fault) →
        u.leaf? i = some
          { l with state := .closingWarn, reason := none, obstructions := 0, watch := none }
        ∧ (s.leavesSound → ∀ c, s.otb.channel? i = some c →
            u.otb.channel? i = some
              { c with
                mode := .sequence, base := 0, since := s.now, compareA := 3000, compareB := 11000
                output := false }))
      ∧ (sides.contains (leafSide i) = false ∨ (l.state ≠ .released ∧ l.state ≠ .fault) →
          u.leaf? i = some l)))
    ∧ (∀ (ds : List DedupEntry) (issuer : NodeId) (seq : Byte) (now : Time),
      let others := ds.filter (fun d => d.issuer ≠ issuer)
      let fresh : DedupEntry := { issuer := issuer, seqs := [seq], lastUse := now }
      (∀ d, ds.find? (fun d => d.issuer = issuer) = some d →
        (seq ∈ d.seqs → dedupLookup ds issuer seq now = (true, others ++ [{ d with lastUse := now }]))
        ∧ (seq ∉ d.seqs → dedupLookup ds issuer seq now =
            (false, others ++ [{ d with
              seqs := (if d.seqs.length < 4 then d.seqs else d.seqs.drop 1) ++ [seq], lastUse := now }])))
      ∧ (ds.find? (fun d => d.issuer = issuer) = none →
        dedupLookup ds issuer seq now = (false, (if ds.length < 4 then ds else ds.drop 1) ++ [fresh])))
    ∧ (∀ (s : State) (f : Frame) (rest : List Frame), s.inReset = false → s.rxp.queue = f :: rest →
      f.kind = .doorcmd →
      let v := (s.setRxp { s.rxp with queue := rest }).noteFall rest.length
      (doorCmdOf f.payload = none → (f.number = s.cc.number ∨ f.payload.getD 1 0 = 0x02) →
        exec .frameTake s = .next v)
      ∧ (f.number ≠ s.cc.number → f.payload.getD 1 0 ≠ 0x02 →
        exec .frameTake s = .next (v.count .staleFrames))
      ∧ (∀ c, doorCmdOf f.payload = some c → (f.number = s.cc.number ∨ c.action = .close) →
        let w := v.setDcu { s.dcu with dedup := (dedupLookup s.dcu.dedup f.sender c.seq s.now).2 }
        let inRange := c.rangeFrom ≤ s.ownPosition ∧ s.ownPosition ≤ c.rangeTo
        ((dedupLookup s.dcu.dedup f.sender c.seq s.now).1 = true → exec .frameTake s = .next w)
        ∧ ((dedupLookup s.dcu.dedup f.sender c.seq s.now).1 = false → c.action = .release →
          (s.cc.formState ≠ .formed → exec .frameTake s = .next
            ((w.count .doorRefusals).post (.doorRefused c.issuer .notFormed)))
          ∧ (s.cc.formState = .formed → s.cc.table.activeCab ≠ some f.sender → exec .frameTake s = .next
            ((w.count .doorRefusals).post (.doorRefused c.issuer .notCommandingCab)))
          ∧ (s.cc.formState = .formed → s.cc.table.activeCab = some f.sender →
            exec .frameTake s = .next
              (if inRange then w.releaseLeaves (s.sidesOf c.side) s.cc.number else w)))
        ∧ ((dedupLookup s.dcu.dedup f.sender c.seq s.now).1 = false → c.action = .close →
          exec .frameTake s = .next
            (if s.cc.formState = .formed then
              if f.number = s.cc.number ∧ ¬inRange then w else w.closeLeaves (s.sidesOf c.side)
            else w.closeLeaves [.one, .two]))))

/-- The pins follow the leaf states, the channels, doors-secure and the notice queue through OUT_POL (R97, R109,
R141, R146, R178). -/
def Obligations.OutputPinsFollowState : Prop :=
  ∀ s : State,
    (s.inReset = false →
      (∀ i l, s.leaf? i = some l →
        (s.relActive i = true ↔ l.state = .released)
        ∧ (s.leavesSound → (s.drvActive i = true ↔ l.state = .closingDrive)))
      ∧ (∀ i, s.leaf? i = none → s.relActive i = false ∧ s.drvActive i = false)
      ∧ (∀ side, s.warnActive side = true ↔
          ∃ l ∈ s.dlc.leaves, leafSide l.index = side ∧ l.state = .closingWarn)
      ∧ (∀ i side k, s.straps.outPol = .activeHigh →
          s.relPin i = (if s.relActive i then .high else .low)
          ∧ s.drvPin i = (if s.drvActive i then .high else .low)
          ∧ s.warnPin side = (if s.warnActive side then .high else .low)
          ∧ s.heaterPin k = (if s.otb.outputOf (8 + k) then .high else .low))
      ∧ (∀ i side k, s.straps.outPol = .activeLow →
          s.relPin i = (if s.relActive i then .low else .high)
          ∧ s.drvPin i = (if s.drvActive i then .low else .high)
          ∧ s.warnPin side = (if s.warnActive side then .low else .high)
          ∧ s.heaterPin k = (if s.otb.outputOf (8 + k) then .low else .high))
      ∧ s.dsecPin = (if s.dcu.secureOn then .high else .low)
      ∧ (s.port.notices ≠ [] → s.noticeLine = .low) ∧ (s.port.notices = [] → s.noticeLine = .high))
    ∧ (s.inReset = true →
      (∀ i, s.relPin i = .released ∧ s.drvPin i = .released) ∧ (∀ side, s.warnPin side = .released)
        ∧ (∀ k, s.heaterPin k = .released) ∧ s.dsecPin = .released ∧ s.noticeLine = .released)

/-- A DOOR_ISSUE request is refused by the first check that fails, and changes nothing (R128, R184). Model
choice: log entry 19. -/
def Obligations.DoorIssueIsChecked : Prop :=
  ∀ (s : State) (action side rangeFrom rangeTo : Byte) (i : Instr), s.portOpen →
    (i = .doorIssueRelease action side rangeFrom rangeTo ∨ i = .doorIssueClose action side rangeFrom rangeTo) →
    let validBytes := (action = 0x01 ∨ action = 0x02) ∧ (side = 0x01 ∨ side = 0x02 ∨ side = 0x03)
    let rangeOk := 1 ≤ rangeFrom.toNat ∧ rangeFrom.toNat ≤ rangeTo.toNat ∧ rangeTo.toNat ≤ s.cc.table.size
    let releaseOk := s.cc.formState = .formed ∧ s.cc.ownCab = .active ∧ rangeOk
    (¬validBytes → exec i s = .next (s.answered [0x03]))
    ∧ (validBytes → s.straps.coachType.isCab = false → exec i s = .next (s.answered [0x05]))
    ∧ (validBytes → s.straps.coachType.isCab = true → action = 0x01 →
      (s.cc.formState ≠ .formed → exec i s = .next (s.answered [0x06]))
      ∧ (s.cc.formState = .formed → s.cc.ownCab ≠ .active → exec i s = .next (s.answered [0x07]))
      ∧ (s.cc.formState = .formed → s.cc.ownCab = .active → ¬rangeOk →
          exec i s = .next (s.answered [0x03])))
    ∧ (validBytes → s.straps.coachType.isCab = true → (action = 0x01 → releaseOk) →
      (4 ≤ s.dcu.schedule.length ∨ 6 ≤ s.lau.safety.length) → exec i s = .next (s.answered [0x08]))

/-- An accepted DOOR_ISSUE takes the next sequence number, queues copy 1 and acts on the own leaves (R129, R130,
R131, R132). -/
def Obligations.DoorIssueIsSentAndApplied : Prop :=
  ∀ (s : State) (side : DoorSide) (rangeFrom rangeTo : Byte), s.portOpen →
    s.straps.coachType.isCab = true → s.dcu.schedule.length < 4 → s.lau.safety.length < 6 →
    let seq := s.dcu.issueSeq + 1
    let issuer : Byte := if s.isFormed then BitVec.ofNat 8 s.ownPosition else 0
    let copyQueued (u : State) (a : DoorAction) (payload : List Byte) : Prop :=
      ∃ f ∈ u.lau.safety, f.kind = .doorcmd ∧ f.number = s.cc.number ∧ f.position = issuer
        ∧ f.sender = s.id ∧ f.payload = payload
        ∧ u.dcu.schedule = s.dcu.schedule
            ++ [{ frame := f, action := a, seq := seq, ended := 0, phase := .inStore }]
    (s.cc.formState = .formed → s.cc.ownCab = .active → 1 ≤ rangeFrom.toNat →
      rangeFrom.toNat ≤ rangeTo.toNat → rangeTo.toNat ≤ s.cc.table.size →
      ∃ u, exec (.doorIssueRelease 0x01 (doorSideCode side) rangeFrom rangeTo) s = .next u
        ∧ u.port.response = [0x00, seq] ∧ u.dcu.issueSeq = seq
        ∧ copyQueued u .release [seq, 0x01, doorSideCode side, rangeFrom, rangeTo, issuer]
        ∧ u.cc = s.cc ∧ u.hsu = s.hsu ∧ u.rxp = s.rxp ∧ u.lhu = s.lhu
        ∧ u.dlc = (if rangeFrom.toNat ≤ s.ownPosition ∧ s.ownPosition ≤ rangeTo.toNat
            then (s.releaseLeaves (s.sidesOf side) s.cc.number).dlc else s.dlc))
    ∧ (let top := if s.cc.formState = .formed then s.cc.table.size else 32
      let clamp (b : Byte) : Nat := min (max b.toNat 1) top
      let range : Nat × Nat :=
        if clamp rangeTo < clamp rangeFrom then (1, top) else (clamp rangeFrom, clamp rangeTo)
      ∃ u, exec (.doorIssueClose 0x02 (doorSideCode side) rangeFrom rangeTo) s = .next u
        ∧ u.port.response = [0x00, seq] ∧ u.dcu.issueSeq = seq
        ∧ copyQueued u .close
            [seq, 0x02, doorSideCode side, BitVec.ofNat 8 range.1, BitVec.ofNat 8 range.2, issuer]
        ∧ u.cc = s.cc ∧ u.hsu = s.hsu ∧ u.rxp = s.rxp ∧ u.lhu = s.lhu
        ∧ u.dlc = (if s.cc.formState = .formed then
            if range.1 ≤ s.ownPosition ∧ s.ownPosition ≤ range.2
              then (s.closeLeaves (s.sidesOf side)).dlc else s.dlc
          else (s.closeLeaves [.one, .two]).dlc))

/-- A copy is sent again after tDREP, the DOORSTAT every tDSTAT, and a status not renewed in tDFRESH goes stale
(R132, R137, R138, R140, R142, R139, R189). Model choice: log entry 30. -/
def Obligations.CopiesAndDoorStatusRunOn : Prop :=
  (∀ (s : State) (pre rest : List Issue) (i : Issue) (t : Time), s.inReset = false →
      s.dcu.schedule = pre ++ i :: rest → (∀ j ∈ pre, j.seq ≠ i.seq) → i.phase = .spacing t →
      (s.lau.safety.length < 6 →
        exec (.doorcmdRepeat i.seq) s = .next
          (((s.advanceTo t).setLau { s.lau with safety := s.lau.safety ++ [i.frame] }).setDcu
            { s.dcu with schedule := pre ++ { i with phase := .inStore } :: rest }))
      ∧ (6 ≤ s.lau.safety.length → i.ended < 2 →
        exec (.doorcmdRepeat i.seq) s = .next
          ((s.advanceTo t).setDcu
            { s.dcu with
              schedule := pre
                ++ { i with ended := i.ended + 1, phase := .spacing (max s.now t + Config.ms 20) }
                  :: rest }))
      ∧ (6 ≤ s.lau.safety.length → 2 ≤ i.ended →
        exec (.doorcmdRepeat i.seq) s = .next
          ((s.advanceTo t).setDcu { s.dcu with schedule := pre ++ rest })))
    ∧ (∀ (s : State) (t : Time) (left : Side), s.inReset = false → s.cc.formState = .formed →
      s.trainLeft = some left →
      (s.dcu.doorstatOwed = some t ∧ (∀ d, s.dcu.doorstatTimer = some d → max s.now t < d)
        ∨ s.dcu.doorstatOwed = none ∧ s.dcu.doorstatTimer = some t) →
      ∃ u, exec .doorstatPeriod s = .next u
        ∧ u.dcu = { s.dcu with doorstatTimer := some (max s.now t + Config.ms 250), doorstatOwed := none }
        ∧ u.lau.consist = s.lau.consist ∧ u.lau.supply = s.lau.supply ∧ u.cc = s.cc ∧ u.port = s.port
        ∧ u.dlc = s.dlc ∧ u.hsu = s.hsu ∧ u.rxp = s.rxp ∧ u.lhu = s.lhu
        ∧ (s.lau.safety.length < 6 →
            ∃ f ∈ u.lau.safety, f.kind = .doorstat ∧ f.number = s.cc.number
              ∧ f.position = BitVec.ofNat 8 s.ownPosition
              ∧ f.payload = [BitVec.ofNat 8 s.ownPosition, flagCode (s.dcu.summary left).secure,
                  flagCode (s.dcu.summary left.other).secure]))
    ∧ (∀ (s : State) (p : Nat) (e : DoorStatus), s.inReset = false → s.cc.formState = .formed →
      s.dcu.doorStatus.find? (fun x => x.position = p && x.fresh) = some e →
      ∃ u, exec (.doorstatStale p) s = .next u ∧ u.now = max s.now (e.receivedAt + Config.ms 750)
        ∧ u.dcu.doorStatus =
            s.dcu.doorStatus.map (fun x => if x.position = p then { x with fresh := false } else x)
        ∧ (1 ≤ p → p ≤ s.cc.table.size → p ≠ s.ownPosition → u.dcu.secureOn = false
            ∧ (s.dcu.secureOn = true → s.port.notices.length < 16 →
                u.port.notices = s.port.notices ++ [.doorsSecure false]))
        ∧ u.cc = s.cc ∧ u.lau = s.lau ∧ u.dlc = s.dlc ∧ u.hsu = s.hsu ∧ u.rxp = s.rxp)
    ∧ (∀ (s : State) (t : Time), s.dcu.doorstatTimer = some t →
      s.submitDoorstat.dcu.doorstatTimer = some (s.now + Config.ms 250)
      ∧ (t ≤ s.now → s.cc.formState = .formed → s.submitDoorstat.doorstatOccasion = some t)
      ∧ (s.now < t → s.submitDoorstat.dcu.doorstatOwed = s.dcu.doorstatOwed))
    ∧ (∀ (s : State) (f : Frame) (rest : List Frame), s.inReset = false → s.rxp.queue = f :: rest →
      f.kind = .doorstat → f.number = s.cc.number →
      let v := (s.setRxp { s.rxp with queue := rest }).noteFall rest.length
      (∀ p left right, doorstatOf f.payload = some (f.position, left, right) → s.cc.formState = .formed →
        s.cc.table.positionOf f.sender = some p → f.position.toNat = p → p ≠ s.ownPosition →
        let w := v.setDcu { s.dcu with doorStatus := s.dcu.doorStatus.filter (fun x => x.position ≠ p)
          ++ [{ position := p, left := left, right := right, receivedAt := s.now, fresh := true }] }
        exec .frameTake s = .next
          (if w.doorsSecure = s.dcu.secureOn then w
          else (w.setDcu { w.dcu with secureOn := w.doorsSecure }).post (.doorsSecure w.doorsSecure)))
      ∧ ((doorstatOf f.payload = none ∨ s.cc.formState ≠ .formed
          ∨ (∀ p, s.cc.table.positionOf f.sender = some p → p ≠ s.ownPosition →
              f.position.toNat = p → ∀ x, doorstatOf f.payload = some x → x.1 ≠ f.position)) →
        exec .frameTake s = .next v))

/-- A demand or an offer is checked, stored, bid and allocated when it changes the own values (R147, R148, R149,
R160, R150). -/
def Obligations.HeatRequestsAreChecked : Prop :=
  ∀ s : State, s.portOpen →
    let bidQueued (u : State) : Prop := s.storeSound →
      ∃ f, u.lau.supply = [f] ∧ f.kind = .heatbid ∧ f.number = s.cc.number ∧ f.sender = s.id
        ∧ f.position = BitVec.ofNat 8 s.ownPosition
        ∧ f.payload = [BitVec.ofNat 8 u.frostOwn, BitVec.ofNat 8 u.comfortOwn] ++ bytes16 u.hsu.offer
    (∀ channel frost comfort : Byte,
      (s.straps.heatCh ≤ channel.toNat →
        exec (.heatDemand channel frost comfort) s = .next (s.answered [0x0A]))
      ∧ (channel.toNat < s.straps.heatCh → 100 < frost.toNat + comfort.toNat →
        exec (.heatDemand channel frost comfort) s = .next (s.answered [0x02]))
      ∧ (channel.toNat < s.straps.heatCh → frost.toNat + comfort.toNat ≤ 100 →
        (s.hsu.demands[channel.toNat]? = some { frost := frost.toNat, comfort := comfort.toNat } →
          exec (.heatDemand channel frost comfort) s = .next (s.answered [0x00]))
        ∧ (s.hsu.demands[channel.toNat]? ≠ some { frost := frost.toNat, comfort := comfort.toNat } →
          ∃ u, exec (.heatDemand channel frost comfort) s = .next u ∧ u.port.response = [0x00]
            ∧ u.hsu.demands = s.hsu.demands.set channel.toNat
                { frost := frost.toNat, comfort := comfort.toNat }
            ∧ u.hsu.offer = s.hsu.offer ∧ u.hsu.targets = u.duties ∧ u.cc = s.cc ∧ u.dcu = s.dcu
            ∧ (u.frostOwn = s.frostOwn → u.comfortOwn = s.comfortOwn →
                u.hsu.applied = s.hsu.applied ∧ u.hsu.bidTimer = s.hsu.bidTimer ∧ u.hsu.alloc = s.hsu.alloc
                  ∧ u.lau = s.lau)
            ∧ ((u.frostOwn ≠ s.frostOwn ∨ u.comfortOwn ≠ s.comfortOwn) →
                (s.cc.formState = .formed →
                  u.hsu.bidTimer = some (s.now + Config.ms 1000) ∧ u.hsu.alloc.isSome = true
                    ∧ u.hsu.rerunPending = (s.hsu.rerunPending || s.hsu.alloc.isSome)
                    ∧ bidQueued u)
                ∧ (s.cc.formState ≠ .formed → u.hsu.alloc = s.hsu.alloc ∧ u.lau = s.lau)
                ∧ (s.hsu.source = .limit →
                    u.hsu.applied = { frost := min s.hsu.frozen.frost u.frostOwn, comfort := 0 })
                ∧ (s.hsu.source ≠ .limit → u.hsu.applied = s.hsu.applied)))))
    ∧ (∀ offer : BitVec 16,
      (s.straps.coachType.isSupply = false →
        exec (.supplyOffer offer) s = .next ((s.setHsu { s.hsu with offer := 0 }).answered [0x0B]))
      ∧ (s.straps.coachType.isSupply = true → 1000 < offer.toNat →
        exec (.supplyOffer offer) s = .next (s.answered [0x02]))
      ∧ (s.straps.coachType.isSupply = true → offer.toNat ≤ 1000 → offer.toNat = s.hsu.offer →
        exec (.supplyOffer offer) s = .next (s.answered [0x00]))
      ∧ (s.straps.coachType.isSupply = true → offer.toNat ≤ 1000 → offer.toNat ≠ s.hsu.offer →
        ∃ u, exec (.supplyOffer offer) s = .next u ∧ u.port.response = [0x00]
          ∧ u.hsu.offer = offer.toNat ∧ u.hsu.demands = s.hsu.demands ∧ u.hsu.targets = u.duties
          ∧ u.cc = s.cc ∧ u.dcu = s.dcu
          ∧ (s.cc.formState = .formed →
              u.hsu.bidTimer = some (s.now + Config.ms 1000) ∧ u.hsu.alloc.isSome = true
                ∧ u.hsu.rerunPending = (s.hsu.rerunPending || s.hsu.alloc.isSome) ∧ bidQueued u)
          ∧ (s.hsu.source = .limit →
              u.hsu.applied = { frost := min s.hsu.frozen.frost s.frostOwn, comfort := 0 })
          ∧ (s.hsu.source ≠ .limit → u.hsu.applied = s.hsu.applied)
          ∧ (s.cc.formState ≠ .formed → u.hsu.alloc = s.hsu.alloc ∧ u.lau = s.lau)))

/-- A bid goes out every tBID, a bid not renewed goes stale, settle ends, and the hold-over ends in LIMIT (R150,
R153, R156, R158, R160, R161, R152, R154). Model choice: log entry 30. -/
def Obligations.HeatTimersRunOut : Prop :=
  (∀ (s : State) (t : Time), s.inReset = false → s.cc.formState = .formed →
      (s.hsu.bidOwed = some t ∧ (∀ d, s.hsu.bidTimer = some d → max s.now t < d)
        ∨ s.hsu.bidOwed = none ∧ s.hsu.bidTimer = some t) →
      ∃ u, exec .heatbidPeriod s = .next u
        ∧ u.hsu = { s.hsu with bidTimer := some (max s.now t + Config.ms 1000), bidOwed := none }
        ∧ u.lau.safety = s.lau.safety ∧ u.lau.consist = s.lau.consist ∧ u.cc = s.cc ∧ u.port = s.port
        ∧ u.otb = s.otb ∧ u.dcu = s.dcu ∧ u.rxp = s.rxp ∧ u.lhu = s.lhu
        ∧ (s.storeSound → ∃ f, u.lau.supply = [f] ∧ f.kind = .heatbid ∧ f.number = s.cc.number
            ∧ f.payload = [BitVec.ofNat 8 s.frostOwn, BitVec.ofNat 8 s.comfortOwn]
                ++ bytes16 s.hsu.offer))
    ∧ (∀ (s : State) (p : Nat) (b : Bid), s.inReset = false → s.cc.formState = .formed →
      s.hsu.freshBid p = some b →
      ∃ u, exec (.bidStale p) s = .next u ∧ u.now = max s.now (b.receivedAt + Config.ms 3000)
        ∧ u.hsu.freshBid p = none ∧ (∀ q, q ≠ p → u.hsu.freshBid q = s.hsu.freshBid q)
        ∧ u.hsu.applied = s.hsu.applied ∧ u.hsu.source = s.hsu.source ∧ u.cc = s.cc ∧ u.lau = s.lau
        ∧ u.port = s.port ∧ u.otb = s.otb
        ∧ (∀ a, s.hsu.alloc = some a → u.hsu.alloc = some a ∧ u.hsu.rerunPending = true)
        ∧ (s.hsu.alloc = none → ∃ a, u.hsu.alloc = some a ∧ a.inputs = u.allocInputs
            ∧ a.abandoned = false ∧ a.endsBy = u.now + Config.ms 2))
    ∧ (∀ (s : State) (t : Time), s.inReset = false → s.cc.formState = .formed → s.hsu.settle = some t →
      ∃ u, exec .settleExpiry s = .next u ∧ u.now = max s.now t ∧ u.hsu.settle = none
        ∧ u.hsu.bids = s.hsu.bids ∧ u.hsu.applied = s.hsu.applied ∧ u.hsu.source = s.hsu.source
        ∧ u.cc = s.cc ∧ u.lau = s.lau ∧ u.port = s.port ∧ u.otb = s.otb
        ∧ (∀ a, s.hsu.alloc = some a → u.hsu.alloc = some a ∧ u.hsu.rerunPending = true)
        ∧ (s.hsu.alloc = none → ∃ a, u.hsu.alloc = some a ∧ a.inputs = u.allocInputs
            ∧ a.afterSettle = true ∧ a.abandoned = false))
    ∧ (∀ (s : State) (t : Time), s.inReset = false → s.hsu.holdOver = some t →
      let g : Grant := { frost := min s.hsu.frozen.frost s.frostOwn, comfort := 0 }
      ∃ u, exec .holdOverExpiry s = .next u ∧ u.now = max s.now t ∧ u.hsu.source = .limit
        ∧ u.hsu.holdOver = none ∧ u.hsu.applied = g ∧ u.hsu.frozen = s.hsu.frozen ∧ u.cc = s.cc
        ∧ u.lau = s.lau ∧ u.dcu = s.dcu
        ∧ (g = s.hsu.applied → u.port = s.port ∧ u.otb = s.otb ∧ u.hsu.targets = s.hsu.targets)
        ∧ (g ≠ s.hsu.applied → u.hsu.targets = u.duties
            ∧ (s.port.notices.length < 16 →
                u.port.notices = s.port.notices ++ [.heatGrant (g.frost + g.comfort)])))
    ∧ (∀ (s : State) (t : Time), s.hsu.bidTimer = some t →
      (t ≤ s.now → s.cc.formState = .formed → s.submitHeatbid.heatbidOccasion = some t)
      ∧ (s.now < t → s.submitHeatbid.hsu.bidOwed = s.hsu.bidOwed))
    ∧ (∀ s : State, s.allocInputs.length = s.cc.table.entries.length
      ∧ ∀ (p : Nat) (e : TableEntry), s.cc.table.entries[p]? = some e →
        s.allocInputs[p]? = some
          (if p + 1 = s.ownPosition then { frost := s.frostOwn, comfort := s.comfortOwn, offer := s.hsu.offer }
          else
            match s.hsu.freshBid (p + 1) with
            | some b => { frost := b.frost, comfort := b.comfort, offer := b.offer }
            | none => { frost := e.member.ratedHeat, comfort := 0, offer := 0 }))
    ∧ (∀ (s : State) (f : Frame) (rest : List Frame), s.inReset = false → s.rxp.queue = f :: rest →
      f.kind = .heatbid → f.number = s.cc.number → s.hsu.alloc = none →
      let v := (s.setRxp { s.rxp with queue := rest }).noteFall rest.length
      (∀ p e, s.cc.formState = .formed → s.cc.table.positionOf f.sender = some p →
        s.cc.table.entryAt p = some e → f.position.toNat = p → p ≠ s.ownPosition →
        let frost := min (f.payload.getD 0 0).toNat e.member.ratedHeat
        let comfort := min (f.payload.getD 1 0).toNat (e.member.ratedHeat - frost)
        let offer := if e.member.supply then min (numberOf ((f.payload.drop 2).take 2)) 1000 else 0
        let same := ∃ b, s.hsu.freshBid p = some b ∧ b.frost = frost ∧ b.comfort = comfort ∧ b.offer = offer
        ∃ u, exec .frameTake s = .next u
          ∧ u.hsu.bids = s.hsu.bids.filter (fun x => x.position ≠ p)
              ++ [{ position := p, frost := frost, comfort := comfort, offer := offer
                    receivedAt := s.now, fresh := true }]
          ∧ (s.hsu.settle.isSome = true → (u.hsu.settle = none ↔ u.allBidsFresh = true))
          ∧ (s.hsu.settle = none → u.hsu.settle = none)
          ∧ (same → (u.hsu.settle = s.hsu.settle → u.hsu.alloc = none))
          ∧ (¬same ∨ u.hsu.settle ≠ s.hsu.settle →
              ∃ a, u.hsu.alloc = some a ∧ a.inputs = u.allocInputs ∧ a.abandoned = false
                ∧ a.afterSettle = u.hsu.settle.isNone ∧ a.endsBy = s.now + Config.ms 2)
          ∧ u.hsu.applied = s.hsu.applied ∧ u.hsu.source = s.hsu.source ∧ u.cc = s.cc ∧ u.port = s.port
          ∧ u.otb = s.otb ∧ u.dcu = s.dcu)
      ∧ ((s.cc.formState ≠ .formed ∨ s.cc.table.positionOf f.sender = none
          ∨ (∀ p, s.cc.table.positionOf f.sender = some p → f.position.toNat ≠ p ∨ p = s.ownPosition)) →
        exec .frameTake s = .next v))

/-- An allocation that ends after settle sets the grant, and all grants together fit the offers (R155, R156,
R157, R161, R166). -/
def Obligations.AllocationEndSetsGrant : Prop :=
  (∀ (s : State) (a : Allocation), s.inReset = false → s.hsu.alloc = some a →
      (s.hsu.rerunPending = true →
        ∃ u b, exec .allocationEnd s = .next u ∧ u.hsu.alloc = some b ∧ b.inputs = s.allocInputs
          ∧ b.abandoned = false ∧ u.hsu.rerunPending = false ∧ u.hsu.applied = s.hsu.applied
          ∧ u.hsu.source = s.hsu.source ∧ u.port = s.port ∧ u.otb = s.otb ∧ u.cc = s.cc)
      ∧ (s.hsu.rerunPending = false → (a.abandoned = true ∨ a.afterSettle = false) →
        exec .allocationEnd s = .next (s.setHsu { s.hsu with alloc := none }))
      ∧ (s.hsu.rerunPending = false → a.abandoned = false → a.afterSettle = true →
        let g := (allocate a.inputs).getD (a.ownPosition - 1) { frost := 0, comfort := 0 }
        ∃ u, exec .allocationEnd s = .next u ∧ u.hsu.alloc = none ∧ u.hsu.source = .computed
          ∧ u.hsu.holdOver = none ∧ u.hsu.applied = g ∧ u.hsu.demands = s.hsu.demands
          ∧ u.hsu.bids = s.hsu.bids ∧ u.cc = s.cc ∧ u.lau = s.lau ∧ u.dcu = s.dcu
          ∧ (g = s.hsu.applied → u.port = s.port ∧ u.otb = s.otb ∧ u.hsu.targets = s.hsu.targets)
          ∧ (g ≠ s.hsu.applied → u.hsu.targets = u.duties
              ∧ (s.port.notices.length < 16 →
                  u.port.notices = s.port.notices ++ [.heatGrant (g.frost + g.comfort)]))))
    ∧ (∀ inputs : List AllocInput,
      (allocate inputs).length = inputs.length
      ∧ ((allocate inputs).map (fun g => g.frost + g.comfort)).sum ≤ (inputs.map AllocInput.offer).sum
      ∧ (∀ (p : Nat) (i : AllocInput) (g : Grant), inputs[p]? = some i → (allocate inputs)[p]? = some g →
          g.frost ≤ i.frost ∧ g.comfort ≤ i.comfort
          ∧ ((inputs.map AllocInput.frost).sum ≤ (inputs.map AllocInput.offer).sum → g.frost = i.frost)))

/-- STATUS, STRAPS and CONSIST_READ answer their records and change nothing, and NOTICE_TAKE takes the oldest
notice (R171, R172, R175, R177, R185, R187, R188, R189). Model choice: log entry 29. -/
def Obligations.ReadRequestsAnswerRecords : Prop :=
  (∀ s : State, s.portOpen →
    (∃ r, exec .status s = .next (s.answered (0x00 :: r)) ∧ r.length = 15
      ∧ r.getD 0 0 = formStateCode s.cc.formState
      ∧ (r.getD 1 0).getLsbD 0 = s.cc.table.stale ∧ (r.getD 1 0).getLsbD 1 = s.cc.table.partialFlag
      ∧ (r.getD 1 0).getLsbD 2 = s.dcu.secureOn ∧ (r.getD 1 0).getLsbD 3 = !s.lhu.holds.isEmpty
      ∧ (r.getD 1 0).getLsbD 4 = s.lhu.congested ∧ (r.getD 1 0).getLsbD 5 = s.port.lostMarker
      ∧ (r.getD 1 0).getLsbD 6 = false ∧ (r.getD 1 0).getLsbD 7 = false
      ∧ (r.drop 2).take 2 = bytes16 s.cc.number.toNat
      ∧ r.getD 4 0 = BitVec.ofNat 8 s.ownPosition ∧ r.getD 5 0 = BitVec.ofNat 8 s.cc.table.entries.length
      ∧ r.getD 6 0 = orientationCode s.ownOrientation
      ∧ (s.trainLeft = none → r.getD 7 0 = 0xFF ∧ r.getD 8 0 = 0xFF)
      ∧ (∀ side, s.trainLeft = some side →
          r.getD 7 0 = sideCode side ∧ r.getD 8 0 = sideCode side.other)
      ∧ r.getD 9 0 = ownCabCode s.cc.ownCab ∧ r.getD 10 0 = BitVec.ofNat 8 s.hsu.applied.frost
      ∧ r.getD 11 0 = BitVec.ofNat 8 s.hsu.applied.comfort
      ∧ r.getD 12 0 = BitVec.ofNat 8 s.port.notices.length
      ∧ r.getD 13 0 = summaryByte (sideSummary s.dlc.leaves .one)
      ∧ r.getD 14 0 = summaryByte (sideSummary s.dlc.leaves .two))
    ∧ exec .straps s = .next (s.answered
        ([0x00, coachTypeCode s.straps.coachType, endCode s.straps.cabEnd,
          BitVec.ofNat 8 s.straps.leavesS1, BitVec.ofNat 8 s.straps.leavesS2, sideCode s.straps.sideRef,
          BitVec.ofNat 8 s.straps.heatCh, BitVec.ofNat 8 s.straps.heatKw,
          if s.straps.rxPolicy = .keepOld then 0x00 else 0x01,
          if s.straps.outPol = .activeHigh then 0x00 else 0x01]
          ++ bytes32 s.straps.serial.toNat))
    ∧ (∀ start count : Byte,
      (¬(1 ≤ start.toNat ∧ start.toNat ≤ 32 ∧ 1 ≤ count.toNat ∧ count.toNat ≤ 8) →
        exec (.consistRead start count) s = .next (s.answered [0x02]))
      ∧ (1 ≤ start.toNat → start.toNat ≤ 32 → 1 ≤ count.toNat → count.toNat ≤ 8 →
        exec (.consistRead start count) s = .next (s.answered
          ([0x00] ++ bytes16 s.cc.number.toNat
            ++ [BitVec.ofNat 8 s.cc.table.entries.length,
                flagsByte [s.cc.table.stale, s.cc.table.partialFlag]]
            ++ (List.range count.toNat).flatMap (fun k => s.entryBytes (start.toNat + k))))))
    ∧ (∀ p, (s.entryBytes p).length = 15
        ∧ (s.cc.table.entries.length < p → s.entryBytes p = List.replicate 15 0))
    ∧ (∀ (p : Nat) (e : TableEntry), s.cc.table.entries[p]? = some e →
      s.entryBytes (p + 1) =
        [BitVec.ofNat 8 (p + 1)] ++ bytes32 e.member.id.toNat
          ++ [orientationCode e.member.orientation, coachTypeCode e.member.coachType,
              cabResultCode e.member.cab, BitVec.ofNat 8 e.member.leavesS1, BitVec.ofNat 8 e.member.leavesS2,
              BitVec.ofNat 8 e.member.heaters, BitVec.ofNat 8 e.member.ratedHeat,
              (if e.member.supply then 0x01 else 0x00) + (if e.silent then 0x02 else 0x00)]
          ++ bytes16 (if e.member.id = s.id then 0 else min ((s.now - e.lastHeard) / 1000) 65535))
    ∧ (s.port.notices = [] → exec .noticeTake s = .next (s.answered [0, 0, 0, 0, 0, 0, 0]))
    ∧ (∀ n rest, s.port.notices = n :: rest → s.port.lostMarker = false →
      exec .noticeTake s = .next
        ((s.setPort { s.port with notices := rest }).answered (0x00 :: n.record)))
    ∧ (∀ n rest, s.port.notices = n :: rest → s.port.lostMarker = true →
      exec .noticeTake s = .next
        ((s.setPort { s.port with notices := rest ++ [.noticesLost], lostMarker := false }).answered
          (0x00 :: n.record))))
    ∧ (∀ (v : BitVec 16) (w : BitVec 32),
      bytes16 v.toNat = [v.extractLsb' 8 8, v.extractLsb' 0 8]
      ∧ bytes32 w.toNat = [w.extractLsb' 24 8, w.extractLsb' 16 8, w.extractLsb' 8 8, w.extractLsb' 0 8])
    ∧ (∀ a b : Bool, flagsByte [a, b] = (if a then 0x01 else 0x00) + (if b then 0x02 else 0x00))
    ∧ (∀ x : SideSummary, x.faults ≤ 4 →
      summaryByte x = (if x.secure then 0x01 else 0x00) + (if x.isOpen then 0x02 else 0x00)
        + BitVec.ofNat 8 x.faults * 4)
    ∧ ([FormState.start, .gather, .tally, .formed, .solo].map formStateCode = [0x00, 0x01, 0x02, 0x03, 0x04]
      ∧ [CoachEnd.a, .b].map orientationCode = [0x01, 0x02] ∧ [CoachEnd.a, .b].map endCode = [0x41, 0x42]
      ∧ [Side.one, .two].map sideCode = [0x01, 0x02]
      ∧ [CoachType.trailer, .cab, .supply, .cabSupply].map coachTypeCode = [0x00, 0x01, 0x02, 0x03]
      ∧ [OwnCab.noClaim, .requested, .active].map ownCabCode = [0x00, 0x01, 0x02]
      ∧ [CabResult.noCab, .active, .denied].map cabResultCode = [0x00, 0x02, 0x03])
    ∧ (∀ (num : FormationNumber) (n own : Nat) (flag : Bool), (Notice.formed num n own flag).record =
      [0x01] ++ bytes16 num.toNat ++ [BitVec.ofNat 8 n, BitVec.ofNat 8 own, if flag then 0x01 else 0x00])
    ∧ ([LeftReason.reformed .coupling, .reformed .stranger, .reformed .rollChanged, .reformed .mismatch,
          .reformed .timeout, .reformed .cab, .reformed .request, .reformed .start, .adopted].map
          (fun r => (Notice.formationLeft r).record)
        = [0x01, 0x02, 0x03, 0x04, 0x05, 0x06, 0x07, 0x08, 0x09].map
          (fun c : Byte => [0x02, c, 0, 0, 0, 0]))
    ∧ ([Notice.soloEntered, .candidateOverflow, .cabGranted, .cabDenied, .cabLost, .noticesLost].map Notice.record
        = [0x03, 0x04, 0x05, 0x06, 0x07, 0x12].map (fun c : Byte => [c, 0, 0, 0, 0, 0]))
    ∧ (∀ p : Nat, (Notice.memberSilent p).record = [0x08, BitVec.ofNat 8 p, 0, 0, 0, 0]
      ∧ (Notice.memberHeard p).record = [0x09, BitVec.ofNat 8 p, 0, 0, 0, 0]
      ∧ (Notice.leafRecovered p).record = [0x0C, BitVec.ofNat 8 p, 0, 0, 0, 0]
      ∧ (Notice.counterAlert p).record = [0x11, BitVec.ofNat 8 p, 0, 0, 0, 0]
      ∧ (Notice.leafFault p .lockTimeout).record = [0x0B, BitVec.ofNat 8 p, 0x01, 0, 0, 0]
      ∧ (Notice.leafFault p .obstructed).record = [0x0B, BitVec.ofNat 8 p, 0x02, 0, 0, 0]
      ∧ (Notice.leafFault p .unlocked).record = [0x0B, BitVec.ofNat 8 p, 0x03, 0, 0, 0]
      ∧ (Notice.heatGrant p).record = [0x10] ++ bytes16 p ++ [0, 0, 0])
    ∧ (∀ b : Byte, (Notice.doorRefused b .notFormed).record = [0x0D, b, 0x01, 0, 0, 0]
      ∧ (Notice.doorRefused b .notCommandingCab).record = [0x0D, b, 0x02, 0, 0, 0]
      ∧ (Notice.issueVoid b).record = [0x0E, b, 0, 0, 0, 0])
    ∧ ((Notice.doorsSecure false).record = [0x0A, 0x00, 0, 0, 0, 0]
      ∧ (Notice.doorsSecure true).record = [0x0A, 0x01, 0, 0, 0, 0]
      ∧ [FrameKind.reform, .roll, .tally, .doorcmd, .doorstat, .heatbid, .hold].map
          (fun k => (Notice.frameAbandoned k).record)
        = [0x11, 0x12, 0x13, 0x21, 0x22, 0x31, 0x41].map (fun c : Byte => [0x0F, c, 0, 0, 0, 0]))

/-- COUNTER_READ answers a counter's value and changes nothing (R181). -/
def Obligations.CounterReadAnswersValue : Prop :=
  ∀ (s : State) (index : Byte), s.portOpen →
    (index.toNat ≤ 13 →
      exec (.counterRead index) s = .next
        (s.answered ([0x00] ++ bytes16 (s.port.counter index.toNat).toNat)))
    ∧ (13 < index.toNat → exec (.counterRead index) s = .next (s.answered [0x04]))

/-- A counter wraps at 65536, alerts once on reaching 32768, and is decremented down to 0 (R179, R180, R182). -/
def Obligations.CountersCountAndDecrement : Prop :=
  (∀ (s : State) (c : Counter), s.port.counters.length = 14 →
      (s.count c).port.counter c.index = s.port.counter c.index + 1
      ∧ (∀ j, j ≠ c.index → (s.count c).port.counter j = s.port.counter j)
      ∧ (s.port.counter c.index ≠ 32767 →
          (s.count c).port.notices = s.port.notices ∧ (s.count c).port.lostMarker = s.port.lostMarker)
      ∧ (s.port.counter c.index = 32767 → s.port.notices.length < 16 →
          (s.count c).port.notices = s.port.notices ++ [.counterAlert c.index])
      ∧ (s.port.counter c.index = 32767 → 16 ≤ s.port.notices.length →
          (s.count c).port.notices = s.port.notices ∧ (s.count c).port.lostMarker = true))
    ∧ (∀ (s : State) (index : Byte) (amount : BitVec 16), s.portOpen → s.port.counters.length = 14 →
      (13 < index.toNat → exec (.counterDecrement index amount) s = .next (s.answered [0x04]))
      ∧ (index.toNat ≤ 13 →
        let left := (s.port.counter index.toNat).toNat - amount.toNat
        exec (.counterDecrement index amount) s = .next
          ((s.setPort { s.port with counters := s.port.counters.set index.toNat (BitVec.ofNat 16 left) }).answered
            ([0x00] ++ bytes16 left))))

/-- A transaction takes one request, its response becomes ready, and chip select high ends it (R169, R170,
R184). Model choice: log entry 22, log entry 23. -/
def Obligations.TransactionsTakeOneRequest : Prop :=
  (∀ s : State,
    (s.inReset = false → s.pins.csLow = false →
      exec .chipSelectFall s = .next
        ((s.setPins { s.pins with csLow := true }).setPort
          { s.port with phase := .kind, response := [], ready := false, respBy := none }))
    ∧ (s.inReset = false → s.pins.csLow = true →
      exec .chipSelectRise s = .next
        ((s.setPins { s.pins with csLow := false }).setPort
          { s.port with phase := .idle, response := [], ready := false, respBy := none }))
    ∧ (∀ kind : Byte, s.portOpen → (kind = 0x00 ∨ 0x0E ≤ kind.toNat) →
      exec (.unknownRequest kind) s = .next (s.answered [0x01]))
    ∧ (s.inReset = false → s.port.phase = .response → s.port.ready = false →
      exec .responseReady s = .next (s.setPort { s.port with ready := true, respBy := none }))
    ∧ (∀ i, (s.port.ready = false → s.port.readByte i = 0xFF)
        ∧ (s.port.ready = true → s.port.readByte i = s.port.response.getD i 0x00))
    ∧ ((s.port.phase = .idle ∨ s.port.phase = .response) →
      ∀ i : Instr, isPortRequest i = true → exec i s = .next s))
    ∧ ([Request.status, .consistRead, .noticeTake, .doorIssue, .isolate, .heatDemand, .supplyOffer, .cab,
          .reform, .counterRead, .counterDecrement, .lineReset, .straps].map (fun r => (r.code, r.argBytes))
        = [(0x01, 0), (0x02, 2), (0x03, 0), (0x04, 4), (0x05, 2), (0x06, 3), (0x07, 2), (0x08, 1), (0x09, 0),
          (0x0A, 1), (0x0B, 3), (0x0C, 0), (0x0D, 0)])
    ∧ (∀ r : Request, requestOf r.code = some r)
    ∧ (∀ b : Byte, b = 0x00 ∨ 0x0E ≤ b.toNat → requestOf b = none)
    ∧ (∀ i : Instr, isPortRequest i = true → (∀ k, i ≠ .unknownRequest k) →
      ∃ (r : Request) (args : List Byte), requestBytes i = r.code :: args ∧ args.length = r.argBytes)
    ∧ (requestBytes .status = [0x01] ∧ requestBytes .noticeTake = [0x03] ∧ requestBytes .reform = [0x09]
      ∧ requestBytes .lineReset = [0x0C] ∧ requestBytes .straps = [0x0D])
    ∧ (∀ a b c d : Byte, requestBytes (.consistRead a b) = [0x02, a, b]
      ∧ requestBytes (.doorIssueRelease a b c d) = [0x04, a, b, c, d]
      ∧ requestBytes (.doorIssueClose a b c d) = [0x04, a, b, c, d]
      ∧ requestBytes (.isolateOn a b) = [0x05, a, b] ∧ requestBytes (.isolateOff a b) = [0x05, a, b]
      ∧ requestBytes (.heatDemand a b c) = [0x06, a, b, c] ∧ requestBytes (.supplyOffer (a ++ b)) = [0x07, a, b]
      ∧ requestBytes (.cabClaim a) = [0x08, a] ∧ requestBytes (.cabRelease a) = [0x08, a]
      ∧ requestBytes (.counterRead a) = [0x0A, a]
      ∧ requestBytes (.counterDecrement a (b ++ c)) = [0x0B, a, b, c])
    ∧ (∀ (p : Port) (r : Request) (args : List Byte) (n : Nat), p.phase = .kind → args.length ≤ r.argBytes →
      1 ≤ r.argBytes → n < r.argBytes →
      (((r.code :: args).take (n + 1)).foldl Port.clock p) =
        { p with phase := .args ((r.code :: args).take (n + 1)) })
    ∧ (∀ (s : State) (r : Request), s.inReset = false → s.port.phase = .kind →
        exec (.unknownRequest r.code) s = .next (s.setPort (s.port.clock r.code)))
    ∧ (∀ (s : State) (clocked : List Byte) (b : Byte), s.inReset = false → s.port.phase = .args clocked →
        exec (.unknownRequest b) s = .next (s.setPort (s.port.clock b)))
    ∧ (∀ i : Instr, isPortRequest i = true → (∀ k, i ≠ .unknownRequest k) →
      ∀ (s : State) (clocked : List Byte), s.inReset = false → s.port.phase = .args clocked →
        (clocked.length < (requestBytes i).length → (requestBytes i).take clocked.length = clocked →
          exec i s = exec i (s.setPort { s.port with phase := .kind }))
        ∧ (¬(clocked.length < (requestBytes i).length ∧ (requestBytes i).take clocked.length = clocked) →
          exec i s = .next s))
    ∧ (∀ i : Instr, isPortRequest i = true → (∀ k, i ≠ .unknownRequest k) →
      ∃ act : State → State × List Byte, ∀ s : State, s.portOpen → exec i s = .next (s.takeRequest act))
    ∧ (∀ (s : State) (act : State → State × List Byte),
      s.takeRequest act = (act s).1.setPort
        { (act s).1.port with
          phase := .response, response := (act s).2, ready := false
          respBy := some ((act s).1.now + 8) })

end ObligationStatements
end

