-- ==== Sys2Proof/Laws/State.lean ====
section
/-! SUPPORT. One lemma per field per block update: what a block setter writes and what it leaves. -/

namespace Sys2Proof.Machine

variable (s : State)

/-! ### setNow -/

@[simp] theorem State.setNow_pins (v : Time) : (s.setNow v).pins = s.pins := rfl
@[simp] theorem State.setNow_straps (v : Time) : (s.setNow v).straps = s.straps := rfl
@[simp] theorem State.setNow_inReset (v : Time) : (s.setNow v).inReset = s.inReset := rfl
@[simp] theorem State.setNow_now (v : Time) : (s.setNow v).now = v := rfl
@[simp] theorem State.setNow_endA (v : Time) : (s.setNow v).endA = s.endA := rfl
@[simp] theorem State.setNow_endB (v : Time) : (s.setNow v).endB = s.endB := rfl
@[simp] theorem State.setNow_cc (v : Time) : (s.setNow v).cc = s.cc := rfl
@[simp] theorem State.setNow_lau (v : Time) : (s.setNow v).lau = s.lau := rfl
@[simp] theorem State.setNow_rxp (v : Time) : (s.setNow v).rxp = s.rxp := rfl
@[simp] theorem State.setNow_lhu (v : Time) : (s.setNow v).lhu = s.lhu := rfl
@[simp] theorem State.setNow_otb (v : Time) : (s.setNow v).otb = s.otb := rfl
@[simp] theorem State.setNow_dlc (v : Time) : (s.setNow v).dlc = s.dlc := rfl
@[simp] theorem State.setNow_dcu (v : Time) : (s.setNow v).dcu = s.dcu := rfl
@[simp] theorem State.setNow_hsu (v : Time) : (s.setNow v).hsu = s.hsu := rfl
@[simp] theorem State.setNow_port (v : Time) : (s.setNow v).port = s.port := rfl
@[simp] theorem State.setNow_pending (v : Time) : (s.setNow v).pending = s.pending := rfl
@[simp] theorem State.setNow_id (v : Time) : (s.setNow v).id = s.id := rfl
@[simp] theorem State.setNow_isFormed (v : Time) : (s.setNow v).isFormed = s.isFormed := rfl
@[simp] theorem State.setNow_ownPosition (v : Time) : (s.setNow v).ownPosition = s.ownPosition := rfl
@[simp] theorem State.setNow_endLink (v : Time) (e : CoachEnd) : (s.setNow v).endLink e = s.endLink e := by
  cases e <;> rfl

/-! ### setPins -/

@[simp] theorem State.setPins_pins (v : Pins) : (s.setPins v).pins = v := rfl
@[simp] theorem State.setPins_straps (v : Pins) : (s.setPins v).straps = s.straps := rfl
@[simp] theorem State.setPins_inReset (v : Pins) : (s.setPins v).inReset = s.inReset := rfl
@[simp] theorem State.setPins_now (v : Pins) : (s.setPins v).now = s.now := rfl
@[simp] theorem State.setPins_endA (v : Pins) : (s.setPins v).endA = s.endA := rfl
@[simp] theorem State.setPins_endB (v : Pins) : (s.setPins v).endB = s.endB := rfl
@[simp] theorem State.setPins_cc (v : Pins) : (s.setPins v).cc = s.cc := rfl
@[simp] theorem State.setPins_lau (v : Pins) : (s.setPins v).lau = s.lau := rfl
@[simp] theorem State.setPins_rxp (v : Pins) : (s.setPins v).rxp = s.rxp := rfl
@[simp] theorem State.setPins_lhu (v : Pins) : (s.setPins v).lhu = s.lhu := rfl
@[simp] theorem State.setPins_otb (v : Pins) : (s.setPins v).otb = s.otb := rfl
@[simp] theorem State.setPins_dlc (v : Pins) : (s.setPins v).dlc = s.dlc := rfl
@[simp] theorem State.setPins_dcu (v : Pins) : (s.setPins v).dcu = s.dcu := rfl
@[simp] theorem State.setPins_hsu (v : Pins) : (s.setPins v).hsu = s.hsu := rfl
@[simp] theorem State.setPins_port (v : Pins) : (s.setPins v).port = s.port := rfl
@[simp] theorem State.setPins_pending (v : Pins) : (s.setPins v).pending = s.pending := rfl
@[simp] theorem State.setPins_id (v : Pins) : (s.setPins v).id = s.id := rfl
@[simp] theorem State.setPins_isFormed (v : Pins) : (s.setPins v).isFormed = s.isFormed := rfl
@[simp] theorem State.setPins_ownPosition (v : Pins) : (s.setPins v).ownPosition = s.ownPosition := rfl
@[simp] theorem State.setPins_endLink (v : Pins) (e : CoachEnd) : (s.setPins v).endLink e = s.endLink e := by
  cases e <;> rfl

/-! ### setCc -/

@[simp] theorem State.setCc_pins (v : Cc) : (s.setCc v).pins = s.pins := rfl
@[simp] theorem State.setCc_straps (v : Cc) : (s.setCc v).straps = s.straps := rfl
@[simp] theorem State.setCc_inReset (v : Cc) : (s.setCc v).inReset = s.inReset := rfl
@[simp] theorem State.setCc_now (v : Cc) : (s.setCc v).now = s.now := rfl
@[simp] theorem State.setCc_endA (v : Cc) : (s.setCc v).endA = s.endA := rfl
@[simp] theorem State.setCc_endB (v : Cc) : (s.setCc v).endB = s.endB := rfl
@[simp] theorem State.setCc_cc (v : Cc) : (s.setCc v).cc = v := rfl
@[simp] theorem State.setCc_lau (v : Cc) : (s.setCc v).lau = s.lau := rfl
@[simp] theorem State.setCc_rxp (v : Cc) : (s.setCc v).rxp = s.rxp := rfl
@[simp] theorem State.setCc_lhu (v : Cc) : (s.setCc v).lhu = s.lhu := rfl
@[simp] theorem State.setCc_otb (v : Cc) : (s.setCc v).otb = s.otb := rfl
@[simp] theorem State.setCc_dlc (v : Cc) : (s.setCc v).dlc = s.dlc := rfl
@[simp] theorem State.setCc_dcu (v : Cc) : (s.setCc v).dcu = s.dcu := rfl
@[simp] theorem State.setCc_hsu (v : Cc) : (s.setCc v).hsu = s.hsu := rfl
@[simp] theorem State.setCc_port (v : Cc) : (s.setCc v).port = s.port := rfl
@[simp] theorem State.setCc_pending (v : Cc) : (s.setCc v).pending = s.pending := rfl
@[simp] theorem State.setCc_id (v : Cc) : (s.setCc v).id = s.id := rfl
@[simp] theorem State.setCc_endLink (v : Cc) (e : CoachEnd) : (s.setCc v).endLink e = s.endLink e := by
  cases e <;> rfl

/-! ### setLau -/

@[simp] theorem State.setLau_pins (v : Lau) : (s.setLau v).pins = s.pins := rfl
@[simp] theorem State.setLau_straps (v : Lau) : (s.setLau v).straps = s.straps := rfl
@[simp] theorem State.setLau_inReset (v : Lau) : (s.setLau v).inReset = s.inReset := rfl
@[simp] theorem State.setLau_now (v : Lau) : (s.setLau v).now = s.now := rfl
@[simp] theorem State.setLau_endA (v : Lau) : (s.setLau v).endA = s.endA := rfl
@[simp] theorem State.setLau_endB (v : Lau) : (s.setLau v).endB = s.endB := rfl
@[simp] theorem State.setLau_cc (v : Lau) : (s.setLau v).cc = s.cc := rfl
@[simp] theorem State.setLau_lau (v : Lau) : (s.setLau v).lau = v := rfl
@[simp] theorem State.setLau_rxp (v : Lau) : (s.setLau v).rxp = s.rxp := rfl
@[simp] theorem State.setLau_lhu (v : Lau) : (s.setLau v).lhu = s.lhu := rfl
@[simp] theorem State.setLau_otb (v : Lau) : (s.setLau v).otb = s.otb := rfl
@[simp] theorem State.setLau_dlc (v : Lau) : (s.setLau v).dlc = s.dlc := rfl
@[simp] theorem State.setLau_dcu (v : Lau) : (s.setLau v).dcu = s.dcu := rfl
@[simp] theorem State.setLau_hsu (v : Lau) : (s.setLau v).hsu = s.hsu := rfl
@[simp] theorem State.setLau_port (v : Lau) : (s.setLau v).port = s.port := rfl
@[simp] theorem State.setLau_pending (v : Lau) : (s.setLau v).pending = s.pending := rfl
@[simp] theorem State.setLau_id (v : Lau) : (s.setLau v).id = s.id := rfl
@[simp] theorem State.setLau_isFormed (v : Lau) : (s.setLau v).isFormed = s.isFormed := rfl
@[simp] theorem State.setLau_ownPosition (v : Lau) : (s.setLau v).ownPosition = s.ownPosition := rfl
@[simp] theorem State.setLau_endLink (v : Lau) (e : CoachEnd) : (s.setLau v).endLink e = s.endLink e := by
  cases e <;> rfl

/-! ### setRxp -/

@[simp] theorem State.setRxp_pins (v : Rxp) : (s.setRxp v).pins = s.pins := rfl
@[simp] theorem State.setRxp_straps (v : Rxp) : (s.setRxp v).straps = s.straps := rfl
@[simp] theorem State.setRxp_inReset (v : Rxp) : (s.setRxp v).inReset = s.inReset := rfl
@[simp] theorem State.setRxp_now (v : Rxp) : (s.setRxp v).now = s.now := rfl
@[simp] theorem State.setRxp_endA (v : Rxp) : (s.setRxp v).endA = s.endA := rfl
@[simp] theorem State.setRxp_endB (v : Rxp) : (s.setRxp v).endB = s.endB := rfl
@[simp] theorem State.setRxp_cc (v : Rxp) : (s.setRxp v).cc = s.cc := rfl
@[simp] theorem State.setRxp_lau (v : Rxp) : (s.setRxp v).lau = s.lau := rfl
@[simp] theorem State.setRxp_rxp (v : Rxp) : (s.setRxp v).rxp = v := rfl
@[simp] theorem State.setRxp_lhu (v : Rxp) : (s.setRxp v).lhu = s.lhu := rfl
@[simp] theorem State.setRxp_otb (v : Rxp) : (s.setRxp v).otb = s.otb := rfl
@[simp] theorem State.setRxp_dlc (v : Rxp) : (s.setRxp v).dlc = s.dlc := rfl
@[simp] theorem State.setRxp_dcu (v : Rxp) : (s.setRxp v).dcu = s.dcu := rfl
@[simp] theorem State.setRxp_hsu (v : Rxp) : (s.setRxp v).hsu = s.hsu := rfl
@[simp] theorem State.setRxp_port (v : Rxp) : (s.setRxp v).port = s.port := rfl
@[simp] theorem State.setRxp_pending (v : Rxp) : (s.setRxp v).pending = s.pending := rfl
@[simp] theorem State.setRxp_id (v : Rxp) : (s.setRxp v).id = s.id := rfl
@[simp] theorem State.setRxp_isFormed (v : Rxp) : (s.setRxp v).isFormed = s.isFormed := rfl
@[simp] theorem State.setRxp_ownPosition (v : Rxp) : (s.setRxp v).ownPosition = s.ownPosition := rfl
@[simp] theorem State.setRxp_endLink (v : Rxp) (e : CoachEnd) : (s.setRxp v).endLink e = s.endLink e := by
  cases e <;> rfl

/-! ### setLhu -/

@[simp] theorem State.setLhu_pins (v : Lhu) : (s.setLhu v).pins = s.pins := rfl
@[simp] theorem State.setLhu_straps (v : Lhu) : (s.setLhu v).straps = s.straps := rfl
@[simp] theorem State.setLhu_inReset (v : Lhu) : (s.setLhu v).inReset = s.inReset := rfl
@[simp] theorem State.setLhu_now (v : Lhu) : (s.setLhu v).now = s.now := rfl
@[simp] theorem State.setLhu_endA (v : Lhu) : (s.setLhu v).endA = s.endA := rfl
@[simp] theorem State.setLhu_endB (v : Lhu) : (s.setLhu v).endB = s.endB := rfl
@[simp] theorem State.setLhu_cc (v : Lhu) : (s.setLhu v).cc = s.cc := rfl
@[simp] theorem State.setLhu_lau (v : Lhu) : (s.setLhu v).lau = s.lau := rfl
@[simp] theorem State.setLhu_rxp (v : Lhu) : (s.setLhu v).rxp = s.rxp := rfl
@[simp] theorem State.setLhu_lhu (v : Lhu) : (s.setLhu v).lhu = v := rfl
@[simp] theorem State.setLhu_otb (v : Lhu) : (s.setLhu v).otb = s.otb := rfl
@[simp] theorem State.setLhu_dlc (v : Lhu) : (s.setLhu v).dlc = s.dlc := rfl
@[simp] theorem State.setLhu_dcu (v : Lhu) : (s.setLhu v).dcu = s.dcu := rfl
@[simp] theorem State.setLhu_hsu (v : Lhu) : (s.setLhu v).hsu = s.hsu := rfl
@[simp] theorem State.setLhu_port (v : Lhu) : (s.setLhu v).port = s.port := rfl
@[simp] theorem State.setLhu_pending (v : Lhu) : (s.setLhu v).pending = s.pending := rfl
@[simp] theorem State.setLhu_id (v : Lhu) : (s.setLhu v).id = s.id := rfl
@[simp] theorem State.setLhu_isFormed (v : Lhu) : (s.setLhu v).isFormed = s.isFormed := rfl
@[simp] theorem State.setLhu_ownPosition (v : Lhu) : (s.setLhu v).ownPosition = s.ownPosition := rfl
@[simp] theorem State.setLhu_endLink (v : Lhu) (e : CoachEnd) : (s.setLhu v).endLink e = s.endLink e := by
  cases e <;> rfl

/-! ### setOtb -/

@[simp] theorem State.setOtb_pins (v : Otb) : (s.setOtb v).pins = s.pins := rfl
@[simp] theorem State.setOtb_straps (v : Otb) : (s.setOtb v).straps = s.straps := rfl
@[simp] theorem State.setOtb_inReset (v : Otb) : (s.setOtb v).inReset = s.inReset := rfl
@[simp] theorem State.setOtb_now (v : Otb) : (s.setOtb v).now = s.now := rfl
@[simp] theorem State.setOtb_endA (v : Otb) : (s.setOtb v).endA = s.endA := rfl
@[simp] theorem State.setOtb_endB (v : Otb) : (s.setOtb v).endB = s.endB := rfl
@[simp] theorem State.setOtb_cc (v : Otb) : (s.setOtb v).cc = s.cc := rfl
@[simp] theorem State.setOtb_lau (v : Otb) : (s.setOtb v).lau = s.lau := rfl
@[simp] theorem State.setOtb_rxp (v : Otb) : (s.setOtb v).rxp = s.rxp := rfl
@[simp] theorem State.setOtb_lhu (v : Otb) : (s.setOtb v).lhu = s.lhu := rfl
@[simp] theorem State.setOtb_otb (v : Otb) : (s.setOtb v).otb = v := rfl
@[simp] theorem State.setOtb_dlc (v : Otb) : (s.setOtb v).dlc = s.dlc := rfl
@[simp] theorem State.setOtb_dcu (v : Otb) : (s.setOtb v).dcu = s.dcu := rfl
@[simp] theorem State.setOtb_hsu (v : Otb) : (s.setOtb v).hsu = s.hsu := rfl
@[simp] theorem State.setOtb_port (v : Otb) : (s.setOtb v).port = s.port := rfl
@[simp] theorem State.setOtb_pending (v : Otb) : (s.setOtb v).pending = s.pending := rfl
@[simp] theorem State.setOtb_id (v : Otb) : (s.setOtb v).id = s.id := rfl
@[simp] theorem State.setOtb_isFormed (v : Otb) : (s.setOtb v).isFormed = s.isFormed := rfl
@[simp] theorem State.setOtb_ownPosition (v : Otb) : (s.setOtb v).ownPosition = s.ownPosition := rfl
@[simp] theorem State.setOtb_endLink (v : Otb) (e : CoachEnd) : (s.setOtb v).endLink e = s.endLink e := by
  cases e <;> rfl

/-! ### setDlc -/

@[simp] theorem State.setDlc_pins (v : Dlc) : (s.setDlc v).pins = s.pins := rfl
@[simp] theorem State.setDlc_straps (v : Dlc) : (s.setDlc v).straps = s.straps := rfl
@[simp] theorem State.setDlc_inReset (v : Dlc) : (s.setDlc v).inReset = s.inReset := rfl
@[simp] theorem State.setDlc_now (v : Dlc) : (s.setDlc v).now = s.now := rfl
@[simp] theorem State.setDlc_endA (v : Dlc) : (s.setDlc v).endA = s.endA := rfl
@[simp] theorem State.setDlc_endB (v : Dlc) : (s.setDlc v).endB = s.endB := rfl
@[simp] theorem State.setDlc_cc (v : Dlc) : (s.setDlc v).cc = s.cc := rfl
@[simp] theorem State.setDlc_lau (v : Dlc) : (s.setDlc v).lau = s.lau := rfl
@[simp] theorem State.setDlc_rxp (v : Dlc) : (s.setDlc v).rxp = s.rxp := rfl
@[simp] theorem State.setDlc_lhu (v : Dlc) : (s.setDlc v).lhu = s.lhu := rfl
@[simp] theorem State.setDlc_otb (v : Dlc) : (s.setDlc v).otb = s.otb := rfl
@[simp] theorem State.setDlc_dlc (v : Dlc) : (s.setDlc v).dlc = v := rfl
@[simp] theorem State.setDlc_dcu (v : Dlc) : (s.setDlc v).dcu = s.dcu := rfl
@[simp] theorem State.setDlc_hsu (v : Dlc) : (s.setDlc v).hsu = s.hsu := rfl
@[simp] theorem State.setDlc_port (v : Dlc) : (s.setDlc v).port = s.port := rfl
@[simp] theorem State.setDlc_pending (v : Dlc) : (s.setDlc v).pending = s.pending := rfl
@[simp] theorem State.setDlc_id (v : Dlc) : (s.setDlc v).id = s.id := rfl
@[simp] theorem State.setDlc_isFormed (v : Dlc) : (s.setDlc v).isFormed = s.isFormed := rfl
@[simp] theorem State.setDlc_ownPosition (v : Dlc) : (s.setDlc v).ownPosition = s.ownPosition := rfl
@[simp] theorem State.setDlc_endLink (v : Dlc) (e : CoachEnd) : (s.setDlc v).endLink e = s.endLink e := by
  cases e <;> rfl

/-! ### setDcu -/

@[simp] theorem State.setDcu_pins (v : Dcu) : (s.setDcu v).pins = s.pins := rfl
@[simp] theorem State.setDcu_straps (v : Dcu) : (s.setDcu v).straps = s.straps := rfl
@[simp] theorem State.setDcu_inReset (v : Dcu) : (s.setDcu v).inReset = s.inReset := rfl
@[simp] theorem State.setDcu_now (v : Dcu) : (s.setDcu v).now = s.now := rfl
@[simp] theorem State.setDcu_endA (v : Dcu) : (s.setDcu v).endA = s.endA := rfl
@[simp] theorem State.setDcu_endB (v : Dcu) : (s.setDcu v).endB = s.endB := rfl
@[simp] theorem State.setDcu_cc (v : Dcu) : (s.setDcu v).cc = s.cc := rfl
@[simp] theorem State.setDcu_lau (v : Dcu) : (s.setDcu v).lau = s.lau := rfl
@[simp] theorem State.setDcu_rxp (v : Dcu) : (s.setDcu v).rxp = s.rxp := rfl
@[simp] theorem State.setDcu_lhu (v : Dcu) : (s.setDcu v).lhu = s.lhu := rfl
@[simp] theorem State.setDcu_otb (v : Dcu) : (s.setDcu v).otb = s.otb := rfl
@[simp] theorem State.setDcu_dlc (v : Dcu) : (s.setDcu v).dlc = s.dlc := rfl
@[simp] theorem State.setDcu_dcu (v : Dcu) : (s.setDcu v).dcu = v := rfl
@[simp] theorem State.setDcu_hsu (v : Dcu) : (s.setDcu v).hsu = s.hsu := rfl
@[simp] theorem State.setDcu_port (v : Dcu) : (s.setDcu v).port = s.port := rfl
@[simp] theorem State.setDcu_pending (v : Dcu) : (s.setDcu v).pending = s.pending := rfl
@[simp] theorem State.setDcu_id (v : Dcu) : (s.setDcu v).id = s.id := rfl
@[simp] theorem State.setDcu_isFormed (v : Dcu) : (s.setDcu v).isFormed = s.isFormed := rfl
@[simp] theorem State.setDcu_ownPosition (v : Dcu) : (s.setDcu v).ownPosition = s.ownPosition := rfl
@[simp] theorem State.setDcu_endLink (v : Dcu) (e : CoachEnd) : (s.setDcu v).endLink e = s.endLink e := by
  cases e <;> rfl

/-! ### setHsu -/

@[simp] theorem State.setHsu_pins (v : Hsu) : (s.setHsu v).pins = s.pins := rfl
@[simp] theorem State.setHsu_straps (v : Hsu) : (s.setHsu v).straps = s.straps := rfl
@[simp] theorem State.setHsu_inReset (v : Hsu) : (s.setHsu v).inReset = s.inReset := rfl
@[simp] theorem State.setHsu_now (v : Hsu) : (s.setHsu v).now = s.now := rfl
@[simp] theorem State.setHsu_endA (v : Hsu) : (s.setHsu v).endA = s.endA := rfl
@[simp] theorem State.setHsu_endB (v : Hsu) : (s.setHsu v).endB = s.endB := rfl
@[simp] theorem State.setHsu_cc (v : Hsu) : (s.setHsu v).cc = s.cc := rfl
@[simp] theorem State.setHsu_lau (v : Hsu) : (s.setHsu v).lau = s.lau := rfl
@[simp] theorem State.setHsu_rxp (v : Hsu) : (s.setHsu v).rxp = s.rxp := rfl
@[simp] theorem State.setHsu_lhu (v : Hsu) : (s.setHsu v).lhu = s.lhu := rfl
@[simp] theorem State.setHsu_otb (v : Hsu) : (s.setHsu v).otb = s.otb := rfl
@[simp] theorem State.setHsu_dlc (v : Hsu) : (s.setHsu v).dlc = s.dlc := rfl
@[simp] theorem State.setHsu_dcu (v : Hsu) : (s.setHsu v).dcu = s.dcu := rfl
@[simp] theorem State.setHsu_hsu (v : Hsu) : (s.setHsu v).hsu = v := rfl
@[simp] theorem State.setHsu_port (v : Hsu) : (s.setHsu v).port = s.port := rfl
@[simp] theorem State.setHsu_pending (v : Hsu) : (s.setHsu v).pending = s.pending := rfl
@[simp] theorem State.setHsu_id (v : Hsu) : (s.setHsu v).id = s.id := rfl
@[simp] theorem State.setHsu_isFormed (v : Hsu) : (s.setHsu v).isFormed = s.isFormed := rfl
@[simp] theorem State.setHsu_ownPosition (v : Hsu) : (s.setHsu v).ownPosition = s.ownPosition := rfl
@[simp] theorem State.setHsu_endLink (v : Hsu) (e : CoachEnd) : (s.setHsu v).endLink e = s.endLink e := by
  cases e <;> rfl

/-! ### setPort -/

@[simp] theorem State.setPort_pins (v : Port) : (s.setPort v).pins = s.pins := rfl
@[simp] theorem State.setPort_straps (v : Port) : (s.setPort v).straps = s.straps := rfl
@[simp] theorem State.setPort_inReset (v : Port) : (s.setPort v).inReset = s.inReset := rfl
@[simp] theorem State.setPort_now (v : Port) : (s.setPort v).now = s.now := rfl
@[simp] theorem State.setPort_endA (v : Port) : (s.setPort v).endA = s.endA := rfl
@[simp] theorem State.setPort_endB (v : Port) : (s.setPort v).endB = s.endB := rfl
@[simp] theorem State.setPort_cc (v : Port) : (s.setPort v).cc = s.cc := rfl
@[simp] theorem State.setPort_lau (v : Port) : (s.setPort v).lau = s.lau := rfl
@[simp] theorem State.setPort_rxp (v : Port) : (s.setPort v).rxp = s.rxp := rfl
@[simp] theorem State.setPort_lhu (v : Port) : (s.setPort v).lhu = s.lhu := rfl
@[simp] theorem State.setPort_otb (v : Port) : (s.setPort v).otb = s.otb := rfl
@[simp] theorem State.setPort_dlc (v : Port) : (s.setPort v).dlc = s.dlc := rfl
@[simp] theorem State.setPort_dcu (v : Port) : (s.setPort v).dcu = s.dcu := rfl
@[simp] theorem State.setPort_hsu (v : Port) : (s.setPort v).hsu = s.hsu := rfl
@[simp] theorem State.setPort_port (v : Port) : (s.setPort v).port = v := rfl
@[simp] theorem State.setPort_pending (v : Port) : (s.setPort v).pending = s.pending := rfl
@[simp] theorem State.setPort_id (v : Port) : (s.setPort v).id = s.id := rfl
@[simp] theorem State.setPort_isFormed (v : Port) : (s.setPort v).isFormed = s.isFormed := rfl
@[simp] theorem State.setPort_ownPosition (v : Port) : (s.setPort v).ownPosition = s.ownPosition := rfl
@[simp] theorem State.setPort_endLink (v : Port) (e : CoachEnd) : (s.setPort v).endLink e = s.endLink e := by
  cases e <;> rfl

/-! ### setEnd -/

@[simp] theorem State.setEnd_pins (e : CoachEnd) (v : EndLink) : (s.setEnd e v).pins = s.pins := by
  cases e <;> rfl
@[simp] theorem State.setEnd_straps (e : CoachEnd) (v : EndLink) : (s.setEnd e v).straps = s.straps := by
  cases e <;> rfl
@[simp] theorem State.setEnd_inReset (e : CoachEnd) (v : EndLink) : (s.setEnd e v).inReset = s.inReset := by
  cases e <;> rfl
@[simp] theorem State.setEnd_now (e : CoachEnd) (v : EndLink) : (s.setEnd e v).now = s.now := by
  cases e <;> rfl
@[simp] theorem State.setEnd_cc (e : CoachEnd) (v : EndLink) : (s.setEnd e v).cc = s.cc := by
  cases e <;> rfl
@[simp] theorem State.setEnd_lau (e : CoachEnd) (v : EndLink) : (s.setEnd e v).lau = s.lau := by
  cases e <;> rfl
@[simp] theorem State.setEnd_rxp (e : CoachEnd) (v : EndLink) : (s.setEnd e v).rxp = s.rxp := by
  cases e <;> rfl
@[simp] theorem State.setEnd_lhu (e : CoachEnd) (v : EndLink) : (s.setEnd e v).lhu = s.lhu := by
  cases e <;> rfl
@[simp] theorem State.setEnd_otb (e : CoachEnd) (v : EndLink) : (s.setEnd e v).otb = s.otb := by
  cases e <;> rfl
@[simp] theorem State.setEnd_dlc (e : CoachEnd) (v : EndLink) : (s.setEnd e v).dlc = s.dlc := by
  cases e <;> rfl
@[simp] theorem State.setEnd_dcu (e : CoachEnd) (v : EndLink) : (s.setEnd e v).dcu = s.dcu := by
  cases e <;> rfl
@[simp] theorem State.setEnd_hsu (e : CoachEnd) (v : EndLink) : (s.setEnd e v).hsu = s.hsu := by
  cases e <;> rfl
@[simp] theorem State.setEnd_port (e : CoachEnd) (v : EndLink) : (s.setEnd e v).port = s.port := by
  cases e <;> rfl
@[simp] theorem State.setEnd_pending (e : CoachEnd) (v : EndLink) : (s.setEnd e v).pending = s.pending := by
  cases e <;> rfl
@[simp] theorem State.setEnd_endLink_same (e : CoachEnd) (v : EndLink) : (s.setEnd e v).endLink e = v := by
  cases e <;> rfl
@[simp] theorem State.setEnd_endLink_other (e : CoachEnd) (v : EndLink) :
    (s.setEnd e v).endLink e.other = s.endLink e.other := by
  cases e <;> rfl
@[simp] theorem State.setEnd_id (e : CoachEnd) (v : EndLink) : (s.setEnd e v).id = s.id := by
  cases e <;> rfl

/-! ### advanceTo -/

@[simp] theorem State.advanceTo_pins (t : Time) : (s.advanceTo t).pins = s.pins := rfl
@[simp] theorem State.advanceTo_straps (t : Time) : (s.advanceTo t).straps = s.straps := rfl
@[simp] theorem State.advanceTo_inReset (t : Time) : (s.advanceTo t).inReset = s.inReset := rfl
@[simp] theorem State.advanceTo_now (t : Time) : (s.advanceTo t).now = max s.now t := rfl
@[simp] theorem State.advanceTo_endA (t : Time) : (s.advanceTo t).endA = s.endA := rfl
@[simp] theorem State.advanceTo_endB (t : Time) : (s.advanceTo t).endB = s.endB := rfl
@[simp] theorem State.advanceTo_cc (t : Time) : (s.advanceTo t).cc = s.cc := rfl
@[simp] theorem State.advanceTo_lau (t : Time) : (s.advanceTo t).lau = s.lau := rfl
@[simp] theorem State.advanceTo_rxp (t : Time) : (s.advanceTo t).rxp = s.rxp := rfl
@[simp] theorem State.advanceTo_lhu (t : Time) : (s.advanceTo t).lhu = s.lhu := rfl
@[simp] theorem State.advanceTo_otb (t : Time) : (s.advanceTo t).otb = s.otb := rfl
@[simp] theorem State.advanceTo_dlc (t : Time) : (s.advanceTo t).dlc = s.dlc := rfl
@[simp] theorem State.advanceTo_dcu (t : Time) : (s.advanceTo t).dcu = s.dcu := rfl
@[simp] theorem State.advanceTo_hsu (t : Time) : (s.advanceTo t).hsu = s.hsu := rfl
@[simp] theorem State.advanceTo_port (t : Time) : (s.advanceTo t).port = s.port := rfl
@[simp] theorem State.advanceTo_pending (t : Time) : (s.advanceTo t).pending = s.pending := rfl
@[simp] theorem State.advanceTo_id (t : Time) : (s.advanceTo t).id = s.id := rfl
@[simp] theorem State.advanceTo_isFormed (t : Time) : (s.advanceTo t).isFormed = s.isFormed := rfl
@[simp] theorem State.advanceTo_endLink (t : Time) (e : CoachEnd) : (s.advanceTo t).endLink e = s.endLink e := by
  cases e <;> rfl

end Sys2Proof.Machine
end

