-- ==== Sys2Proof/Laws/Ops.lean ====
section
/-! SUPPORT. What the shared operations of Machine/Ops.lean can do: occasions, the port's take, notices and
counters, submissions. -/

namespace Sys2Proof.Machine

/-! ### Occasions -/

@[simp] theorem State.onOccasion_none (s : State) (act : State → State) : s.onOccasion none act = s := by
  unfold State.onOccasion
  split <;> rfl

theorem State.onOccasion_inReset (s : State) (o : Option Time) (act : State → State) (h : s.inReset = true) :
    s.onOccasion o act = s := by
  simp [State.onOccasion, h]

theorem State.onOccasion_some (s : State) (t : Time) (act : State → State) (h : s.inReset = false) :
    s.onOccasion (some t) act = act (s.advanceTo t) := by
  simp [State.onOccasion, h]

/-- Everything an event of the node's own can do: nothing, or act at its occasion. -/
theorem State.onOccasion_cases (s : State) (o : Option Time) (act : State → State) :
    s.onOccasion o act = s ∨ ∃ t, o = some t ∧ s.inReset = false ∧ s.onOccasion o act = act (s.advanceTo t) := by
  cases hr : s.inReset
  · cases o with
    | none => exact .inl (s.onOccasion_none act)
    | some t => exact .inr ⟨t, rfl, rfl, s.onOccasion_some t act hr⟩
  · exact .inl (s.onOccasion_inReset o act hr)

theorem State.inService_inReset (s : State) (act : State → State) (h : s.inReset = true) :
    s.inService act = s := by
  simp [State.inService, h]

theorem State.inService_running (s : State) (act : State → State) (h : s.inReset = false) :
    s.inService act = act s := by
  simp [State.inService, h]

/-! ### The port's take (R169) -/

theorem State.onRequest_closed (s : State) (i : Instr) (act : State → State × List Byte)
    (h : s.inReset = true ∨ s.port.phase = .idle ∨ s.port.phase = .response) : s.onRequest i act = s := by
  rcases h with h | h | h <;> simp only [State.onRequest, h] <;> simp

theorem State.onRequest_open (s : State) (i : Instr) (act : State → State × List Byte) (hr : s.inReset = false)
    (h : s.port.phase = .kind) :
    s.onRequest i act = (act s).1.setPort ((act s).1.port.prepare (act s).1.now (act s).2) := by
  simp [State.onRequest, State.takeRequest, hr, h]

/-- In ARGS the request whose bytes were begun is taken as from KIND, and no other. -/
theorem State.onRequest_args (s : State) (i : Instr) (act : State → State × List Byte) (clocked : List Byte)
    (hr : s.inReset = false) (h : s.port.phase = .args clocked) :
    s.onRequest i act
      = if begins clocked (requestBytes i) then (s.setPort { s.port with phase := .kind }).onRequest i act
        else s := by
  simp [State.onRequest, hr, h]

/-- Everything a request's command can do: nothing, or its take. -/
theorem State.onRequest_cases (s : State) (i : Instr) (act : State → State × List Byte) :
    s.onRequest i act = s ∨ s.onRequest i act = s.takeRequest act
      ∨ s.onRequest i act = (s.setPort { s.port with phase := .kind }).takeRequest act := by
  unfold State.onRequest
  split
  · exact .inl rfl
  · split
    · exact .inl rfl
    · exact .inl rfl
    · exact .inr (.inl rfl)
    · split
      · exact .inr (.inr rfl)
      · exact .inl rfl

/-! ### Notices (R177) -/

theorem Port.post_notFull (p : Port) (n : Notice) (h : p.notices.length < Config.noticeCap) :
    p.post n = { p with notices := p.notices ++ [n] } := by
  simp [Port.post, h]

theorem Port.post_full (p : Port) (n : Notice) (h : Config.noticeCap ≤ p.notices.length) :
    p.post n = { p with lostMarker := true } := by
  simp [Port.post, Nat.not_lt.mpr h]

/-- A post never takes the queue past 16. -/
theorem Port.post_length (p : Port) (n : Notice) (h : p.notices.length ≤ Config.noticeCap) :
    (p.post n).notices.length ≤ Config.noticeCap := by
  by_cases hl : p.notices.length < Config.noticeCap
  · rw [p.post_notFull n hl]
    rw [List.length_append]
    exact hl
  · rw [p.post_full n (Nat.not_lt.mp hl)]
    exact h

/-- A post leaves a set marker on a full queue only. -/
theorem Port.post_marker (p : Port) (n : Notice) (hl : p.notices.length ≤ Config.noticeCap)
    (hm : p.lostMarker = true → p.notices.length = Config.noticeCap) :
    (p.post n).lostMarker = true → (p.post n).notices.length = Config.noticeCap := by
  by_cases h : p.notices.length < Config.noticeCap
  · rw [p.post_notFull n h]
    intro hs
    exact absurd (hm hs) (Nat.ne_of_lt h)
  · rw [p.post_full n (Nat.not_lt.mp h)]
    intro _
    exact Nat.le_antisymm hl (Nat.not_lt.mp h)

@[simp] theorem Port.post_counters (p : Port) (n : Notice) : (p.post n).counters = p.counters := by
  unfold Port.post
  split <;> rfl
@[simp] theorem Port.post_phase (p : Port) (n : Notice) : (p.post n).phase = p.phase := by
  unfold Port.post
  split <;> rfl
@[simp] theorem Port.post_response (p : Port) (n : Notice) : (p.post n).response = p.response := by
  unfold Port.post
  split <;> rfl
@[simp] theorem Port.post_ready (p : Port) (n : Notice) : (p.post n).ready = p.ready := by
  unfold Port.post
  split <;> rfl
@[simp] theorem Port.post_respBy (p : Port) (n : Notice) : (p.post n).respBy = p.respBy := by
  unfold Port.post
  split <;> rfl

/-! ### Counters (R179) -/

@[simp] theorem Port.count_counters (p : Port) (i : Nat) :
    (p.count i).counters = p.counters.set i (p.counter i + 1) := by
  unfold Port.count
  dsimp only
  split
  · rw [Port.post_counters]
  · rfl
@[simp] theorem Port.count_phase (p : Port) (i : Nat) : (p.count i).phase = p.phase := by
  unfold Port.count
  dsimp only
  split <;> simp
@[simp] theorem Port.count_response (p : Port) (i : Nat) : (p.count i).response = p.response := by
  unfold Port.count
  dsimp only
  split <;> simp
@[simp] theorem Port.count_ready (p : Port) (i : Nat) : (p.count i).ready = p.ready := by
  unfold Port.count
  dsimp only
  split <;> simp
@[simp] theorem Port.count_respBy (p : Port) (i : Nat) : (p.count i).respBy = p.respBy := by
  unfold Port.count
  dsimp only
  split <;> simp

/-! ### Posting and counting touch the port alone -/

theorem State.post_eq (s : State) (n : Notice) : s.post n = s.setPort (s.port.post n) := rfl

theorem State.count_eq (s : State) (c : Counter) : s.count c = s.setPort (s.port.count c.index) := rfl

@[simp] theorem State.post_portCounters (s : State) (n : Notice) :
    (s.post n).port.counters = s.port.counters := s.port.post_counters n
@[simp] theorem State.post_portPhase (s : State) (n : Notice) : (s.post n).port.phase = s.port.phase :=
  s.port.post_phase n
@[simp] theorem State.post_portResponse (s : State) (n : Notice) :
    (s.post n).port.response = s.port.response := s.port.post_response n
@[simp] theorem State.count_portCounters (s : State) (c : Counter) :
    (s.count c).port.counters = s.port.counters.set c.index (s.port.counter c.index + 1) :=
  s.port.count_counters c.index
@[simp] theorem State.count_portPhase (s : State) (c : Counter) : (s.count c).port.phase = s.port.phase :=
  s.port.count_phase c.index
@[simp] theorem State.count_portResponse (s : State) (c : Counter) :
    (s.count c).port.response = s.port.response := s.port.count_response c.index

/-- A posted notice is in the queue while it has room, and what waited waits on. -/
theorem State.post_notices (s : State) (n : Notice) (h : s.port.notices.length < Config.noticeCap) :
    (s.post n).port.notices = s.port.notices ++ [n] := by
  rw [s.post_eq, State.setPort, s.port.post_notFull n h]

/-- A post never removes a notice. -/
theorem State.mem_post_notices (s : State) (m n : Notice) (h : m ∈ s.port.notices) :
    m ∈ (s.post n).port.notices := by
  rw [s.post_eq]
  unfold State.setPort Port.post
  dsimp only
  split
  · exact List.mem_append_left _ h
  · exact h

/-- A counter's value after a count (R179). -/
theorem State.count_counter (s : State) (c : Counter) (h : s.port.counters.length = 14) :
    (s.count c).port.counter c.index = s.port.counter c.index + 1 := by
  have hi : c.index < s.port.counters.length := by
    rw [h]
    cases c <;> decide
  unfold Port.counter
  rw [s.count_portCounters]
  simp [Port.counter, List.getD_eq_getElem?_getD, hi]

/-! ### Submissions (R59 to R62) -/

theorem replaceKind_length (k : FrameKind) (f : Frame) (q : List Frame) :
    (replaceKind k f q).length = q.length := by
  induction q with
  | nil => rfl
  | cons g gs ih =>
    unfold replaceKind
    split
    · rfl
    · simp [ih]

/-- A queue with a supersede rule stays within its capacity. -/
theorem superseding_length (cap : Nat) (q : List Frame) (f : Frame) (h : q.length ≤ cap) :
    (superseding cap q f).1.length ≤ cap := by
  unfold superseding
  split
  · rw [replaceKind_length]
    exact h
  · split
    · rename_i hl
      rw [List.length_append]
      exact hl
    · exact h

/-- A DOORCMD is stored below six frames (R60). -/
theorem Lau.submitDoorcmd_stored (l : Lau) (f : Frame) (h : l.safety.length < Config.safetyCap) :
    l.submitDoorcmd f = ({ l with safety := l.safety ++ [f] }, .stored) := by
  simp [Lau.submitDoorcmd, h]

/-- A DOORCMD is not stored at six frames (R60). -/
theorem Lau.submitDoorcmd_full (l : Lau) (f : Frame) (h : Config.safetyCap ≤ l.safety.length) :
    l.submitDoorcmd f = (l, .full) := by
  simp [Lau.submitDoorcmd, Nat.not_lt.mpr h]

end Sys2Proof.Machine
end

