-- ==== Sys2Proof/Laws/Frames.lean ====
section
/-! SUPPORT. What the shared operations leave: for each operation, one lemma per field that it never writes. -/

namespace Sys2Proof.Machine

variable (s : State)

/-! ### post -/

@[simp] theorem State.post_pins (n : Notice) : (s.post n).pins = s.pins := rfl
@[simp] theorem State.post_straps (n : Notice) : (s.post n).straps = s.straps := rfl
@[simp] theorem State.post_inReset (n : Notice) : (s.post n).inReset = s.inReset := rfl
@[simp] theorem State.post_now (n : Notice) : (s.post n).now = s.now := rfl
@[simp] theorem State.post_endA (n : Notice) : (s.post n).endA = s.endA := rfl
@[simp] theorem State.post_endB (n : Notice) : (s.post n).endB = s.endB := rfl
@[simp] theorem State.post_cc (n : Notice) : (s.post n).cc = s.cc := rfl
@[simp] theorem State.post_lau (n : Notice) : (s.post n).lau = s.lau := rfl
@[simp] theorem State.post_rxp (n : Notice) : (s.post n).rxp = s.rxp := rfl
@[simp] theorem State.post_lhu (n : Notice) : (s.post n).lhu = s.lhu := rfl
@[simp] theorem State.post_otb (n : Notice) : (s.post n).otb = s.otb := rfl
@[simp] theorem State.post_dlc (n : Notice) : (s.post n).dlc = s.dlc := rfl
@[simp] theorem State.post_dcu (n : Notice) : (s.post n).dcu = s.dcu := rfl
@[simp] theorem State.post_hsu (n : Notice) : (s.post n).hsu = s.hsu := rfl
@[simp] theorem State.post_pending (n : Notice) : (s.post n).pending = s.pending := rfl

/-! ### count -/

@[simp] theorem State.count_pins (c : Counter) : (s.count c).pins = s.pins := rfl
@[simp] theorem State.count_straps (c : Counter) : (s.count c).straps = s.straps := rfl
@[simp] theorem State.count_inReset (c : Counter) : (s.count c).inReset = s.inReset := rfl
@[simp] theorem State.count_now (c : Counter) : (s.count c).now = s.now := rfl
@[simp] theorem State.count_endA (c : Counter) : (s.count c).endA = s.endA := rfl
@[simp] theorem State.count_endB (c : Counter) : (s.count c).endB = s.endB := rfl
@[simp] theorem State.count_cc (c : Counter) : (s.count c).cc = s.cc := rfl
@[simp] theorem State.count_lau (c : Counter) : (s.count c).lau = s.lau := rfl
@[simp] theorem State.count_rxp (c : Counter) : (s.count c).rxp = s.rxp := rfl
@[simp] theorem State.count_lhu (c : Counter) : (s.count c).lhu = s.lhu := rfl
@[simp] theorem State.count_otb (c : Counter) : (s.count c).otb = s.otb := rfl
@[simp] theorem State.count_dlc (c : Counter) : (s.count c).dlc = s.dlc := rfl
@[simp] theorem State.count_dcu (c : Counter) : (s.count c).dcu = s.dcu := rfl
@[simp] theorem State.count_hsu (c : Counter) : (s.count c).hsu = s.hsu := rfl
@[simp] theorem State.count_pending (c : Counter) : (s.count c).pending = s.pending := rfl

/-! ### submitHold -/

@[simp] theorem State.submitHold_pins (t : Nat) : (s.submitHold t).pins = s.pins := rfl
@[simp] theorem State.submitHold_straps (t : Nat) : (s.submitHold t).straps = s.straps := rfl
@[simp] theorem State.submitHold_inReset (t : Nat) : (s.submitHold t).inReset = s.inReset := rfl
@[simp] theorem State.submitHold_now (t : Nat) : (s.submitHold t).now = s.now := rfl
@[simp] theorem State.submitHold_endA (t : Nat) : (s.submitHold t).endA = s.endA := rfl
@[simp] theorem State.submitHold_endB (t : Nat) : (s.submitHold t).endB = s.endB := rfl
@[simp] theorem State.submitHold_cc (t : Nat) : (s.submitHold t).cc = s.cc := rfl
@[simp] theorem State.submitHold_rxp (t : Nat) : (s.submitHold t).rxp = s.rxp := rfl
@[simp] theorem State.submitHold_lhu (t : Nat) : (s.submitHold t).lhu = s.lhu := rfl
@[simp] theorem State.submitHold_otb (t : Nat) : (s.submitHold t).otb = s.otb := rfl
@[simp] theorem State.submitHold_dlc (t : Nat) : (s.submitHold t).dlc = s.dlc := rfl
@[simp] theorem State.submitHold_dcu (t : Nat) : (s.submitHold t).dcu = s.dcu := rfl
@[simp] theorem State.submitHold_hsu (t : Nat) : (s.submitHold t).hsu = s.hsu := rfl
@[simp] theorem State.submitHold_port (t : Nat) : (s.submitHold t).port = s.port := rfl
@[simp] theorem State.submitHold_pending (t : Nat) : (s.submitHold t).pending = s.pending := rfl

/-! ### submitRoll -/

@[simp] theorem State.submitRoll_pins : (s.submitRoll).pins = s.pins := rfl
@[simp] theorem State.submitRoll_straps : (s.submitRoll).straps = s.straps := rfl
@[simp] theorem State.submitRoll_inReset : (s.submitRoll).inReset = s.inReset := rfl
@[simp] theorem State.submitRoll_now : (s.submitRoll).now = s.now := rfl
@[simp] theorem State.submitRoll_endA : (s.submitRoll).endA = s.endA := rfl
@[simp] theorem State.submitRoll_endB : (s.submitRoll).endB = s.endB := rfl
@[simp] theorem State.submitRoll_cc : (s.submitRoll).cc = s.cc := rfl
@[simp] theorem State.submitRoll_rxp : (s.submitRoll).rxp = s.rxp := rfl
@[simp] theorem State.submitRoll_lhu : (s.submitRoll).lhu = s.lhu := rfl
@[simp] theorem State.submitRoll_otb : (s.submitRoll).otb = s.otb := rfl
@[simp] theorem State.submitRoll_dlc : (s.submitRoll).dlc = s.dlc := rfl
@[simp] theorem State.submitRoll_dcu : (s.submitRoll).dcu = s.dcu := rfl
@[simp] theorem State.submitRoll_hsu : (s.submitRoll).hsu = s.hsu := rfl
@[simp] theorem State.submitRoll_port : (s.submitRoll).port = s.port := rfl
@[simp] theorem State.submitRoll_pending : (s.submitRoll).pending = s.pending := rfl

/-! ### submitTally -/

@[simp] theorem State.submitTally_pins (t : Tally) : (s.submitTally t).pins = s.pins := rfl
@[simp] theorem State.submitTally_straps (t : Tally) : (s.submitTally t).straps = s.straps := rfl
@[simp] theorem State.submitTally_inReset (t : Tally) : (s.submitTally t).inReset = s.inReset := rfl
@[simp] theorem State.submitTally_now (t : Tally) : (s.submitTally t).now = s.now := rfl
@[simp] theorem State.submitTally_endA (t : Tally) : (s.submitTally t).endA = s.endA := rfl
@[simp] theorem State.submitTally_endB (t : Tally) : (s.submitTally t).endB = s.endB := rfl
@[simp] theorem State.submitTally_cc (t : Tally) : (s.submitTally t).cc = s.cc := rfl
@[simp] theorem State.submitTally_rxp (t : Tally) : (s.submitTally t).rxp = s.rxp := rfl
@[simp] theorem State.submitTally_lhu (t : Tally) : (s.submitTally t).lhu = s.lhu := rfl
@[simp] theorem State.submitTally_otb (t : Tally) : (s.submitTally t).otb = s.otb := rfl
@[simp] theorem State.submitTally_dlc (t : Tally) : (s.submitTally t).dlc = s.dlc := rfl
@[simp] theorem State.submitTally_dcu (t : Tally) : (s.submitTally t).dcu = s.dcu := rfl
@[simp] theorem State.submitTally_hsu (t : Tally) : (s.submitTally t).hsu = s.hsu := rfl
@[simp] theorem State.submitTally_port (t : Tally) : (s.submitTally t).port = s.port := rfl
@[simp] theorem State.submitTally_pending (t : Tally) : (s.submitTally t).pending = s.pending := rfl

/-! ### submitReform -/

@[simp] theorem State.submitReform_pins (r : ReformReason) : (s.submitReform r).pins = s.pins := rfl
@[simp] theorem State.submitReform_straps (r : ReformReason) : (s.submitReform r).straps = s.straps := rfl
@[simp] theorem State.submitReform_inReset (r : ReformReason) : (s.submitReform r).inReset = s.inReset := rfl
@[simp] theorem State.submitReform_now (r : ReformReason) : (s.submitReform r).now = s.now := rfl
@[simp] theorem State.submitReform_endA (r : ReformReason) : (s.submitReform r).endA = s.endA := rfl
@[simp] theorem State.submitReform_endB (r : ReformReason) : (s.submitReform r).endB = s.endB := rfl
@[simp] theorem State.submitReform_cc (r : ReformReason) : (s.submitReform r).cc = s.cc := rfl
@[simp] theorem State.submitReform_rxp (r : ReformReason) : (s.submitReform r).rxp = s.rxp := rfl
@[simp] theorem State.submitReform_lhu (r : ReformReason) : (s.submitReform r).lhu = s.lhu := rfl
@[simp] theorem State.submitReform_otb (r : ReformReason) : (s.submitReform r).otb = s.otb := rfl
@[simp] theorem State.submitReform_dlc (r : ReformReason) : (s.submitReform r).dlc = s.dlc := rfl
@[simp] theorem State.submitReform_dcu (r : ReformReason) : (s.submitReform r).dcu = s.dcu := rfl
@[simp] theorem State.submitReform_hsu (r : ReformReason) : (s.submitReform r).hsu = s.hsu := rfl
@[simp] theorem State.submitReform_port (r : ReformReason) : (s.submitReform r).port = s.port := rfl
@[simp] theorem State.submitReform_pending (r : ReformReason) : (s.submitReform r).pending = s.pending := rfl

/-! ### submitDoorstat -/

@[simp] theorem State.submitDoorstat_pins : (s.submitDoorstat).pins = s.pins := rfl
@[simp] theorem State.submitDoorstat_straps : (s.submitDoorstat).straps = s.straps := rfl
@[simp] theorem State.submitDoorstat_inReset : (s.submitDoorstat).inReset = s.inReset := rfl
@[simp] theorem State.submitDoorstat_now : (s.submitDoorstat).now = s.now := rfl
@[simp] theorem State.submitDoorstat_endA : (s.submitDoorstat).endA = s.endA := rfl
@[simp] theorem State.submitDoorstat_endB : (s.submitDoorstat).endB = s.endB := rfl
@[simp] theorem State.submitDoorstat_cc : (s.submitDoorstat).cc = s.cc := rfl
@[simp] theorem State.submitDoorstat_rxp : (s.submitDoorstat).rxp = s.rxp := rfl
@[simp] theorem State.submitDoorstat_lhu : (s.submitDoorstat).lhu = s.lhu := rfl
@[simp] theorem State.submitDoorstat_otb : (s.submitDoorstat).otb = s.otb := rfl
@[simp] theorem State.submitDoorstat_dlc : (s.submitDoorstat).dlc = s.dlc := rfl
@[simp] theorem State.submitDoorstat_hsu : (s.submitDoorstat).hsu = s.hsu := rfl
@[simp] theorem State.submitDoorstat_port : (s.submitDoorstat).port = s.port := rfl
@[simp] theorem State.submitDoorstat_pending : (s.submitDoorstat).pending = s.pending := rfl

/-! ### submitHeatbid -/

@[simp] theorem State.submitHeatbid_pins : (s.submitHeatbid).pins = s.pins := rfl
@[simp] theorem State.submitHeatbid_straps : (s.submitHeatbid).straps = s.straps := rfl
@[simp] theorem State.submitHeatbid_inReset : (s.submitHeatbid).inReset = s.inReset := rfl
@[simp] theorem State.submitHeatbid_now : (s.submitHeatbid).now = s.now := rfl
@[simp] theorem State.submitHeatbid_endA : (s.submitHeatbid).endA = s.endA := rfl
@[simp] theorem State.submitHeatbid_endB : (s.submitHeatbid).endB = s.endB := rfl
@[simp] theorem State.submitHeatbid_cc : (s.submitHeatbid).cc = s.cc := rfl
@[simp] theorem State.submitHeatbid_rxp : (s.submitHeatbid).rxp = s.rxp := rfl
@[simp] theorem State.submitHeatbid_lhu : (s.submitHeatbid).lhu = s.lhu := rfl
@[simp] theorem State.submitHeatbid_otb : (s.submitHeatbid).otb = s.otb := rfl
@[simp] theorem State.submitHeatbid_dlc : (s.submitHeatbid).dlc = s.dlc := rfl
@[simp] theorem State.submitHeatbid_dcu : (s.submitHeatbid).dcu = s.dcu := rfl
@[simp] theorem State.submitHeatbid_port : (s.submitHeatbid).port = s.port := rfl
@[simp] theorem State.submitHeatbid_pending : (s.submitHeatbid).pending = s.pending := rfl

/-! ### stagger -/

@[simp] theorem State.stagger_pins (p n : Nat) : (s.stagger p n).pins = s.pins := rfl
@[simp] theorem State.stagger_straps (p n : Nat) : (s.stagger p n).straps = s.straps := rfl
@[simp] theorem State.stagger_inReset (p n : Nat) : (s.stagger p n).inReset = s.inReset := rfl
@[simp] theorem State.stagger_now (p n : Nat) : (s.stagger p n).now = s.now := rfl
@[simp] theorem State.stagger_endA (p n : Nat) : (s.stagger p n).endA = s.endA := rfl
@[simp] theorem State.stagger_endB (p n : Nat) : (s.stagger p n).endB = s.endB := rfl
@[simp] theorem State.stagger_cc (p n : Nat) : (s.stagger p n).cc = s.cc := rfl
@[simp] theorem State.stagger_lau (p n : Nat) : (s.stagger p n).lau = s.lau := rfl
@[simp] theorem State.stagger_rxp (p n : Nat) : (s.stagger p n).rxp = s.rxp := rfl
@[simp] theorem State.stagger_lhu (p n : Nat) : (s.stagger p n).lhu = s.lhu := rfl
@[simp] theorem State.stagger_dlc (p n : Nat) : (s.stagger p n).dlc = s.dlc := rfl
@[simp] theorem State.stagger_dcu (p n : Nat) : (s.stagger p n).dcu = s.dcu := rfl
@[simp] theorem State.stagger_hsu (p n : Nat) : (s.stagger p n).hsu = s.hsu := rfl
@[simp] theorem State.stagger_port (p n : Nat) : (s.stagger p n).port = s.port := rfl
@[simp] theorem State.stagger_pending (p n : Nat) : (s.stagger p n).pending = s.pending := rfl

/-! ### putLeaf -/

@[simp] theorem State.putLeaf_pins (l : Leaf) (o : ChannelOrder) : (s.putLeaf l o).pins = s.pins := rfl
@[simp] theorem State.putLeaf_straps (l : Leaf) (o : ChannelOrder) : (s.putLeaf l o).straps = s.straps := rfl
@[simp] theorem State.putLeaf_inReset (l : Leaf) (o : ChannelOrder) : (s.putLeaf l o).inReset = s.inReset := rfl
@[simp] theorem State.putLeaf_now (l : Leaf) (o : ChannelOrder) : (s.putLeaf l o).now = s.now := rfl
@[simp] theorem State.putLeaf_endA (l : Leaf) (o : ChannelOrder) : (s.putLeaf l o).endA = s.endA := rfl
@[simp] theorem State.putLeaf_endB (l : Leaf) (o : ChannelOrder) : (s.putLeaf l o).endB = s.endB := rfl
@[simp] theorem State.putLeaf_cc (l : Leaf) (o : ChannelOrder) : (s.putLeaf l o).cc = s.cc := rfl
@[simp] theorem State.putLeaf_lau (l : Leaf) (o : ChannelOrder) : (s.putLeaf l o).lau = s.lau := rfl
@[simp] theorem State.putLeaf_rxp (l : Leaf) (o : ChannelOrder) : (s.putLeaf l o).rxp = s.rxp := rfl
@[simp] theorem State.putLeaf_lhu (l : Leaf) (o : ChannelOrder) : (s.putLeaf l o).lhu = s.lhu := rfl
@[simp] theorem State.putLeaf_dcu (l : Leaf) (o : ChannelOrder) : (s.putLeaf l o).dcu = s.dcu := rfl
@[simp] theorem State.putLeaf_hsu (l : Leaf) (o : ChannelOrder) : (s.putLeaf l o).hsu = s.hsu := rfl
@[simp] theorem State.putLeaf_port (l : Leaf) (o : ChannelOrder) : (s.putLeaf l o).port = s.port := rfl
@[simp] theorem State.putLeaf_pending (l : Leaf) (o : ChannelOrder) : (s.putLeaf l o).pending = s.pending := rfl

/-! ### startAllocation -/

@[simp] theorem State.startAllocation_pins : (s.startAllocation).pins = s.pins := rfl
@[simp] theorem State.startAllocation_straps : (s.startAllocation).straps = s.straps := rfl
@[simp] theorem State.startAllocation_inReset : (s.startAllocation).inReset = s.inReset := rfl
@[simp] theorem State.startAllocation_now : (s.startAllocation).now = s.now := rfl
@[simp] theorem State.startAllocation_endA : (s.startAllocation).endA = s.endA := rfl
@[simp] theorem State.startAllocation_endB : (s.startAllocation).endB = s.endB := rfl
@[simp] theorem State.startAllocation_cc : (s.startAllocation).cc = s.cc := rfl
@[simp] theorem State.startAllocation_lau : (s.startAllocation).lau = s.lau := rfl
@[simp] theorem State.startAllocation_rxp : (s.startAllocation).rxp = s.rxp := rfl
@[simp] theorem State.startAllocation_lhu : (s.startAllocation).lhu = s.lhu := rfl
@[simp] theorem State.startAllocation_otb : (s.startAllocation).otb = s.otb := rfl
@[simp] theorem State.startAllocation_dlc : (s.startAllocation).dlc = s.dlc := rfl
@[simp] theorem State.startAllocation_dcu : (s.startAllocation).dcu = s.dcu := rfl
@[simp] theorem State.startAllocation_port : (s.startAllocation).port = s.port := rfl
@[simp] theorem State.startAllocation_pending : (s.startAllocation).pending = s.pending := rfl

/-! ### convertDuties -/

@[simp] theorem State.convertDuties_pins : (s.convertDuties).pins = s.pins := rfl
@[simp] theorem State.convertDuties_straps : (s.convertDuties).straps = s.straps := rfl
@[simp] theorem State.convertDuties_inReset : (s.convertDuties).inReset = s.inReset := rfl
@[simp] theorem State.convertDuties_now : (s.convertDuties).now = s.now := rfl
@[simp] theorem State.convertDuties_endA : (s.convertDuties).endA = s.endA := rfl
@[simp] theorem State.convertDuties_endB : (s.convertDuties).endB = s.endB := rfl
@[simp] theorem State.convertDuties_cc : (s.convertDuties).cc = s.cc := rfl
@[simp] theorem State.convertDuties_lau : (s.convertDuties).lau = s.lau := rfl
@[simp] theorem State.convertDuties_rxp : (s.convertDuties).rxp = s.rxp := rfl
@[simp] theorem State.convertDuties_lhu : (s.convertDuties).lhu = s.lhu := rfl
@[simp] theorem State.convertDuties_dlc : (s.convertDuties).dlc = s.dlc := rfl
@[simp] theorem State.convertDuties_dcu : (s.convertDuties).dcu = s.dcu := rfl
@[simp] theorem State.convertDuties_port : (s.convertDuties).port = s.port := rfl
@[simp] theorem State.convertDuties_pending : (s.convertDuties).pending = s.pending := rfl

/-! ### takeNumber -/

@[simp] theorem State.takeNumber_pins (n : FormationNumber) : (s.takeNumber n).pins = s.pins := rfl
@[simp] theorem State.takeNumber_straps (n : FormationNumber) : (s.takeNumber n).straps = s.straps := rfl
@[simp] theorem State.takeNumber_inReset (n : FormationNumber) : (s.takeNumber n).inReset = s.inReset := rfl
@[simp] theorem State.takeNumber_now (n : FormationNumber) : (s.takeNumber n).now = s.now := rfl
@[simp] theorem State.takeNumber_endA (n : FormationNumber) : (s.takeNumber n).endA = s.endA := rfl
@[simp] theorem State.takeNumber_endB (n : FormationNumber) : (s.takeNumber n).endB = s.endB := rfl
@[simp] theorem State.takeNumber_lau (n : FormationNumber) : (s.takeNumber n).lau = s.lau := rfl
@[simp] theorem State.takeNumber_rxp (n : FormationNumber) : (s.takeNumber n).rxp = s.rxp := rfl
@[simp] theorem State.takeNumber_lhu (n : FormationNumber) : (s.takeNumber n).lhu = s.lhu := rfl
@[simp] theorem State.takeNumber_otb (n : FormationNumber) : (s.takeNumber n).otb = s.otb := rfl
@[simp] theorem State.takeNumber_dlc (n : FormationNumber) : (s.takeNumber n).dlc = s.dlc := rfl
@[simp] theorem State.takeNumber_dcu (n : FormationNumber) : (s.takeNumber n).dcu = s.dcu := rfl
@[simp] theorem State.takeNumber_hsu (n : FormationNumber) : (s.takeNumber n).hsu = s.hsu := rfl
@[simp] theorem State.takeNumber_port (n : FormationNumber) : (s.takeNumber n).port = s.port := rfl
@[simp] theorem State.takeNumber_pending (n : FormationNumber) : (s.takeNumber n).pending = s.pending := rfl

/-! ### insertOwnRecord -/

@[simp] theorem State.insertOwnRecord_pins : (s.insertOwnRecord).pins = s.pins := rfl
@[simp] theorem State.insertOwnRecord_straps : (s.insertOwnRecord).straps = s.straps := rfl
@[simp] theorem State.insertOwnRecord_inReset : (s.insertOwnRecord).inReset = s.inReset := rfl
@[simp] theorem State.insertOwnRecord_now : (s.insertOwnRecord).now = s.now := rfl
@[simp] theorem State.insertOwnRecord_endA : (s.insertOwnRecord).endA = s.endA := rfl
@[simp] theorem State.insertOwnRecord_endB : (s.insertOwnRecord).endB = s.endB := rfl
@[simp] theorem State.insertOwnRecord_lau : (s.insertOwnRecord).lau = s.lau := rfl
@[simp] theorem State.insertOwnRecord_rxp : (s.insertOwnRecord).rxp = s.rxp := rfl
@[simp] theorem State.insertOwnRecord_lhu : (s.insertOwnRecord).lhu = s.lhu := rfl
@[simp] theorem State.insertOwnRecord_otb : (s.insertOwnRecord).otb = s.otb := rfl
@[simp] theorem State.insertOwnRecord_dlc : (s.insertOwnRecord).dlc = s.dlc := rfl
@[simp] theorem State.insertOwnRecord_dcu : (s.insertOwnRecord).dcu = s.dcu := rfl
@[simp] theorem State.insertOwnRecord_hsu : (s.insertOwnRecord).hsu = s.hsu := rfl
@[simp] theorem State.insertOwnRecord_port : (s.insertOwnRecord).port = s.port := rfl
@[simp] theorem State.insertOwnRecord_pending : (s.insertOwnRecord).pending = s.pending := rfl

/-! ### startOrdering -/

@[simp] theorem State.startOrdering_pins (p : Bool) : (s.startOrdering p).pins = s.pins := rfl
@[simp] theorem State.startOrdering_straps (p : Bool) : (s.startOrdering p).straps = s.straps := rfl
@[simp] theorem State.startOrdering_inReset (p : Bool) : (s.startOrdering p).inReset = s.inReset := rfl
@[simp] theorem State.startOrdering_now (p : Bool) : (s.startOrdering p).now = s.now := rfl
@[simp] theorem State.startOrdering_endA (p : Bool) : (s.startOrdering p).endA = s.endA := rfl
@[simp] theorem State.startOrdering_endB (p : Bool) : (s.startOrdering p).endB = s.endB := rfl
@[simp] theorem State.startOrdering_lau (p : Bool) : (s.startOrdering p).lau = s.lau := rfl
@[simp] theorem State.startOrdering_rxp (p : Bool) : (s.startOrdering p).rxp = s.rxp := rfl
@[simp] theorem State.startOrdering_lhu (p : Bool) : (s.startOrdering p).lhu = s.lhu := rfl
@[simp] theorem State.startOrdering_otb (p : Bool) : (s.startOrdering p).otb = s.otb := rfl
@[simp] theorem State.startOrdering_dlc (p : Bool) : (s.startOrdering p).dlc = s.dlc := rfl
@[simp] theorem State.startOrdering_dcu (p : Bool) : (s.startOrdering p).dcu = s.dcu := rfl
@[simp] theorem State.startOrdering_hsu (p : Bool) : (s.startOrdering p).hsu = s.hsu := rfl
@[simp] theorem State.startOrdering_port (p : Bool) : (s.startOrdering p).port = s.port := rfl
@[simp] theorem State.startOrdering_pending (p : Bool) : (s.startOrdering p).pending = s.pending := rfl

/-! ### hsuLeaveFormed -/

@[simp] theorem State.hsuLeaveFormed_pins : (s.hsuLeaveFormed).pins = s.pins := rfl
@[simp] theorem State.hsuLeaveFormed_straps : (s.hsuLeaveFormed).straps = s.straps := rfl
@[simp] theorem State.hsuLeaveFormed_inReset : (s.hsuLeaveFormed).inReset = s.inReset := rfl
@[simp] theorem State.hsuLeaveFormed_now : (s.hsuLeaveFormed).now = s.now := rfl
@[simp] theorem State.hsuLeaveFormed_endA : (s.hsuLeaveFormed).endA = s.endA := rfl
@[simp] theorem State.hsuLeaveFormed_endB : (s.hsuLeaveFormed).endB = s.endB := rfl
@[simp] theorem State.hsuLeaveFormed_cc : (s.hsuLeaveFormed).cc = s.cc := rfl
@[simp] theorem State.hsuLeaveFormed_lau : (s.hsuLeaveFormed).lau = s.lau := rfl
@[simp] theorem State.hsuLeaveFormed_rxp : (s.hsuLeaveFormed).rxp = s.rxp := rfl
@[simp] theorem State.hsuLeaveFormed_lhu : (s.hsuLeaveFormed).lhu = s.lhu := rfl
@[simp] theorem State.hsuLeaveFormed_otb : (s.hsuLeaveFormed).otb = s.otb := rfl
@[simp] theorem State.hsuLeaveFormed_dlc : (s.hsuLeaveFormed).dlc = s.dlc := rfl
@[simp] theorem State.hsuLeaveFormed_dcu : (s.hsuLeaveFormed).dcu = s.dcu := rfl
@[simp] theorem State.hsuLeaveFormed_port : (s.hsuLeaveFormed).port = s.port := rfl
@[simp] theorem State.hsuLeaveFormed_pending : (s.hsuLeaveFormed).pending = s.pending := rfl

/-! ### writeSoloTable -/

@[simp] theorem State.writeSoloTable_pins : (s.writeSoloTable).pins = s.pins := rfl
@[simp] theorem State.writeSoloTable_straps : (s.writeSoloTable).straps = s.straps := rfl
@[simp] theorem State.writeSoloTable_inReset : (s.writeSoloTable).inReset = s.inReset := rfl
@[simp] theorem State.writeSoloTable_now : (s.writeSoloTable).now = s.now := rfl
@[simp] theorem State.writeSoloTable_endA : (s.writeSoloTable).endA = s.endA := rfl
@[simp] theorem State.writeSoloTable_endB : (s.writeSoloTable).endB = s.endB := rfl
@[simp] theorem State.writeSoloTable_lau : (s.writeSoloTable).lau = s.lau := rfl
@[simp] theorem State.writeSoloTable_rxp : (s.writeSoloTable).rxp = s.rxp := rfl
@[simp] theorem State.writeSoloTable_lhu : (s.writeSoloTable).lhu = s.lhu := rfl
@[simp] theorem State.writeSoloTable_otb : (s.writeSoloTable).otb = s.otb := rfl
@[simp] theorem State.writeSoloTable_dlc : (s.writeSoloTable).dlc = s.dlc := rfl
@[simp] theorem State.writeSoloTable_dcu : (s.writeSoloTable).dcu = s.dcu := rfl
@[simp] theorem State.writeSoloTable_hsu : (s.writeSoloTable).hsu = s.hsu := rfl
@[simp] theorem State.writeSoloTable_port : (s.writeSoloTable).port = s.port := rfl
@[simp] theorem State.writeSoloTable_pending : (s.writeSoloTable).pending = s.pending := rfl

/-! ### startSettle -/

@[simp] theorem State.startSettle_pins : (s.startSettle).pins = s.pins := rfl
@[simp] theorem State.startSettle_straps : (s.startSettle).straps = s.straps := rfl
@[simp] theorem State.startSettle_inReset : (s.startSettle).inReset = s.inReset := rfl
@[simp] theorem State.startSettle_now : (s.startSettle).now = s.now := rfl
@[simp] theorem State.startSettle_endA : (s.startSettle).endA = s.endA := rfl
@[simp] theorem State.startSettle_endB : (s.startSettle).endB = s.endB := rfl
@[simp] theorem State.startSettle_cc : (s.startSettle).cc = s.cc := rfl
@[simp] theorem State.startSettle_lau : (s.startSettle).lau = s.lau := rfl
@[simp] theorem State.startSettle_rxp : (s.startSettle).rxp = s.rxp := rfl
@[simp] theorem State.startSettle_lhu : (s.startSettle).lhu = s.lhu := rfl
@[simp] theorem State.startSettle_otb : (s.startSettle).otb = s.otb := rfl
@[simp] theorem State.startSettle_dlc : (s.startSettle).dlc = s.dlc := rfl
@[simp] theorem State.startSettle_dcu : (s.startSettle).dcu = s.dcu := rfl
@[simp] theorem State.startSettle_port : (s.startSettle).port = s.port := rfl
@[simp] theorem State.startSettle_pending : (s.startSettle).pending = s.pending := rfl

/-! ### evalDoorsSecure -/

@[simp] theorem State.evalDoorsSecure_pins : (s.evalDoorsSecure).pins = s.pins := by
  unfold State.evalDoorsSecure
  split <;> rfl
@[simp] theorem State.evalDoorsSecure_straps : (s.evalDoorsSecure).straps = s.straps := by
  unfold State.evalDoorsSecure
  split <;> rfl
@[simp] theorem State.evalDoorsSecure_inReset : (s.evalDoorsSecure).inReset = s.inReset := by
  unfold State.evalDoorsSecure
  split <;> rfl
@[simp] theorem State.evalDoorsSecure_now : (s.evalDoorsSecure).now = s.now := by
  unfold State.evalDoorsSecure
  split <;> rfl
@[simp] theorem State.evalDoorsSecure_endA : (s.evalDoorsSecure).endA = s.endA := by
  unfold State.evalDoorsSecure
  split <;> rfl
@[simp] theorem State.evalDoorsSecure_endB : (s.evalDoorsSecure).endB = s.endB := by
  unfold State.evalDoorsSecure
  split <;> rfl
@[simp] theorem State.evalDoorsSecure_cc : (s.evalDoorsSecure).cc = s.cc := by
  unfold State.evalDoorsSecure
  split <;> rfl
@[simp] theorem State.evalDoorsSecure_lau : (s.evalDoorsSecure).lau = s.lau := by
  unfold State.evalDoorsSecure
  split <;> rfl
@[simp] theorem State.evalDoorsSecure_rxp : (s.evalDoorsSecure).rxp = s.rxp := by
  unfold State.evalDoorsSecure
  split <;> rfl
@[simp] theorem State.evalDoorsSecure_lhu : (s.evalDoorsSecure).lhu = s.lhu := by
  unfold State.evalDoorsSecure
  split <;> rfl
@[simp] theorem State.evalDoorsSecure_otb : (s.evalDoorsSecure).otb = s.otb := by
  unfold State.evalDoorsSecure
  split <;> rfl
@[simp] theorem State.evalDoorsSecure_dlc : (s.evalDoorsSecure).dlc = s.dlc := by
  unfold State.evalDoorsSecure
  split <;> rfl
@[simp] theorem State.evalDoorsSecure_hsu : (s.evalDoorsSecure).hsu = s.hsu := by
  unfold State.evalDoorsSecure
  split <;> rfl
@[simp] theorem State.evalDoorsSecure_pending : (s.evalDoorsSecure).pending = s.pending := by
  unfold State.evalDoorsSecure
  split <;> rfl

/-! ### triggerAllocation -/

@[simp] theorem State.triggerAllocation_pins : (s.triggerAllocation).pins = s.pins := by
  unfold State.triggerAllocation
  repeat' split
  all_goals rfl
@[simp] theorem State.triggerAllocation_straps : (s.triggerAllocation).straps = s.straps := by
  unfold State.triggerAllocation
  repeat' split
  all_goals rfl
@[simp] theorem State.triggerAllocation_inReset : (s.triggerAllocation).inReset = s.inReset := by
  unfold State.triggerAllocation
  repeat' split
  all_goals rfl
@[simp] theorem State.triggerAllocation_now : (s.triggerAllocation).now = s.now := by
  unfold State.triggerAllocation
  repeat' split
  all_goals rfl
@[simp] theorem State.triggerAllocation_endA : (s.triggerAllocation).endA = s.endA := by
  unfold State.triggerAllocation
  repeat' split
  all_goals rfl
@[simp] theorem State.triggerAllocation_endB : (s.triggerAllocation).endB = s.endB := by
  unfold State.triggerAllocation
  repeat' split
  all_goals rfl
@[simp] theorem State.triggerAllocation_cc : (s.triggerAllocation).cc = s.cc := by
  unfold State.triggerAllocation
  repeat' split
  all_goals rfl
@[simp] theorem State.triggerAllocation_lau : (s.triggerAllocation).lau = s.lau := by
  unfold State.triggerAllocation
  repeat' split
  all_goals rfl
@[simp] theorem State.triggerAllocation_rxp : (s.triggerAllocation).rxp = s.rxp := by
  unfold State.triggerAllocation
  repeat' split
  all_goals rfl
@[simp] theorem State.triggerAllocation_lhu : (s.triggerAllocation).lhu = s.lhu := by
  unfold State.triggerAllocation
  repeat' split
  all_goals rfl
@[simp] theorem State.triggerAllocation_otb : (s.triggerAllocation).otb = s.otb := by
  unfold State.triggerAllocation
  repeat' split
  all_goals rfl
@[simp] theorem State.triggerAllocation_dlc : (s.triggerAllocation).dlc = s.dlc := by
  unfold State.triggerAllocation
  repeat' split
  all_goals rfl
@[simp] theorem State.triggerAllocation_dcu : (s.triggerAllocation).dcu = s.dcu := by
  unfold State.triggerAllocation
  repeat' split
  all_goals rfl
@[simp] theorem State.triggerAllocation_port : (s.triggerAllocation).port = s.port := by
  unfold State.triggerAllocation
  repeat' split
  all_goals rfl
@[simp] theorem State.triggerAllocation_pending : (s.triggerAllocation).pending = s.pending := by
  unfold State.triggerAllocation
  repeat' split
  all_goals rfl

/-! ### applyGrant -/

@[simp] theorem State.applyGrant_pins (g : Grant) : (s.applyGrant g).pins = s.pins := by
  unfold State.applyGrant
  split <;> rfl
@[simp] theorem State.applyGrant_straps (g : Grant) : (s.applyGrant g).straps = s.straps := by
  unfold State.applyGrant
  split <;> rfl
@[simp] theorem State.applyGrant_inReset (g : Grant) : (s.applyGrant g).inReset = s.inReset := by
  unfold State.applyGrant
  split <;> rfl
@[simp] theorem State.applyGrant_now (g : Grant) : (s.applyGrant g).now = s.now := by
  unfold State.applyGrant
  split <;> rfl
@[simp] theorem State.applyGrant_endA (g : Grant) : (s.applyGrant g).endA = s.endA := by
  unfold State.applyGrant
  split <;> rfl
@[simp] theorem State.applyGrant_endB (g : Grant) : (s.applyGrant g).endB = s.endB := by
  unfold State.applyGrant
  split <;> rfl
@[simp] theorem State.applyGrant_cc (g : Grant) : (s.applyGrant g).cc = s.cc := by
  unfold State.applyGrant
  split <;> rfl
@[simp] theorem State.applyGrant_lau (g : Grant) : (s.applyGrant g).lau = s.lau := by
  unfold State.applyGrant
  split <;> rfl
@[simp] theorem State.applyGrant_rxp (g : Grant) : (s.applyGrant g).rxp = s.rxp := by
  unfold State.applyGrant
  split <;> rfl
@[simp] theorem State.applyGrant_lhu (g : Grant) : (s.applyGrant g).lhu = s.lhu := by
  unfold State.applyGrant
  split <;> rfl
@[simp] theorem State.applyGrant_dlc (g : Grant) : (s.applyGrant g).dlc = s.dlc := by
  unfold State.applyGrant
  split <;> rfl
@[simp] theorem State.applyGrant_dcu (g : Grant) : (s.applyGrant g).dcu = s.dcu := by
  unfold State.applyGrant
  split <;> rfl
@[simp] theorem State.applyGrant_pending (g : Grant) : (s.applyGrant g).pending = s.pending := by
  unfold State.applyGrant
  split <;> rfl

/-! ### testClosure -/

@[simp] theorem State.testClosure_pins : (s.testClosure).pins = s.pins := by
  unfold State.testClosure
  split <;> rfl
@[simp] theorem State.testClosure_straps : (s.testClosure).straps = s.straps := by
  unfold State.testClosure
  split <;> rfl
@[simp] theorem State.testClosure_inReset : (s.testClosure).inReset = s.inReset := by
  unfold State.testClosure
  split <;> rfl
@[simp] theorem State.testClosure_now : (s.testClosure).now = s.now := by
  unfold State.testClosure
  split <;> rfl
@[simp] theorem State.testClosure_endA : (s.testClosure).endA = s.endA := by
  unfold State.testClosure
  split <;> rfl
@[simp] theorem State.testClosure_endB : (s.testClosure).endB = s.endB := by
  unfold State.testClosure
  split <;> rfl
@[simp] theorem State.testClosure_lau : (s.testClosure).lau = s.lau := by
  unfold State.testClosure
  split <;> rfl
@[simp] theorem State.testClosure_rxp : (s.testClosure).rxp = s.rxp := by
  unfold State.testClosure
  split <;> rfl
@[simp] theorem State.testClosure_lhu : (s.testClosure).lhu = s.lhu := by
  unfold State.testClosure
  split <;> rfl
@[simp] theorem State.testClosure_otb : (s.testClosure).otb = s.otb := by
  unfold State.testClosure
  split <;> rfl
@[simp] theorem State.testClosure_dlc : (s.testClosure).dlc = s.dlc := by
  unfold State.testClosure
  split <;> rfl
@[simp] theorem State.testClosure_dcu : (s.testClosure).dcu = s.dcu := by
  unfold State.testClosure
  split <;> rfl
@[simp] theorem State.testClosure_hsu : (s.testClosure).hsu = s.hsu := by
  unfold State.testClosure
  split <;> rfl
@[simp] theorem State.testClosure_port : (s.testClosure).port = s.port := by
  unfold State.testClosure
  split <;> rfl
@[simp] theorem State.testClosure_pending : (s.testClosure).pending = s.pending := by
  unfold State.testClosure
  split <;> rfl

/-! ### leaveForGather -/

@[simp] theorem State.leaveForGather_pins (r : LeftReason) : (s.leaveForGather r).pins = s.pins := by
  unfold State.leaveForGather
  split <;> rfl
@[simp] theorem State.leaveForGather_straps (r : LeftReason) : (s.leaveForGather r).straps = s.straps := by
  unfold State.leaveForGather
  split <;> rfl
@[simp] theorem State.leaveForGather_inReset (r : LeftReason) : (s.leaveForGather r).inReset = s.inReset := by
  unfold State.leaveForGather
  split <;> rfl
@[simp] theorem State.leaveForGather_now (r : LeftReason) : (s.leaveForGather r).now = s.now := by
  unfold State.leaveForGather
  split <;> rfl
@[simp] theorem State.leaveForGather_endA (r : LeftReason) : (s.leaveForGather r).endA = s.endA := by
  unfold State.leaveForGather
  split <;> rfl
@[simp] theorem State.leaveForGather_endB (r : LeftReason) : (s.leaveForGather r).endB = s.endB := by
  unfold State.leaveForGather
  split <;> rfl
@[simp] theorem State.leaveForGather_lau (r : LeftReason) : (s.leaveForGather r).lau = s.lau := by
  unfold State.leaveForGather
  split <;> rfl
@[simp] theorem State.leaveForGather_rxp (r : LeftReason) : (s.leaveForGather r).rxp = s.rxp := by
  unfold State.leaveForGather
  split <;> rfl
@[simp] theorem State.leaveForGather_lhu (r : LeftReason) : (s.leaveForGather r).lhu = s.lhu := by
  unfold State.leaveForGather
  split <;> rfl
@[simp] theorem State.leaveForGather_otb (r : LeftReason) : (s.leaveForGather r).otb = s.otb := by
  unfold State.leaveForGather
  split <;> rfl
@[simp] theorem State.leaveForGather_dlc (r : LeftReason) : (s.leaveForGather r).dlc = s.dlc := by
  unfold State.leaveForGather
  split <;> rfl
@[simp] theorem State.leaveForGather_dcu (r : LeftReason) : (s.leaveForGather r).dcu = s.dcu := by
  unfold State.leaveForGather
  split <;> rfl
@[simp] theorem State.leaveForGather_hsu (r : LeftReason) : (s.leaveForGather r).hsu = s.hsu := by
  unfold State.leaveForGather
  split <;> rfl
@[simp] theorem State.leaveForGather_pending (r : LeftReason) : (s.leaveForGather r).pending = s.pending := by
  unfold State.leaveForGather
  split <;> rfl

/-! ### settleLeaves -/

@[simp] theorem State.settleLeaves_pins : (s.settleLeaves).pins = s.pins := by
  unfold State.settleLeaves
  dsimp only
  repeat' split
  all_goals simp
@[simp] theorem State.settleLeaves_straps : (s.settleLeaves).straps = s.straps := by
  unfold State.settleLeaves
  dsimp only
  repeat' split
  all_goals simp
@[simp] theorem State.settleLeaves_inReset : (s.settleLeaves).inReset = s.inReset := by
  unfold State.settleLeaves
  dsimp only
  repeat' split
  all_goals simp
@[simp] theorem State.settleLeaves_now : (s.settleLeaves).now = s.now := by
  unfold State.settleLeaves
  dsimp only
  repeat' split
  all_goals simp
@[simp] theorem State.settleLeaves_endA : (s.settleLeaves).endA = s.endA := by
  unfold State.settleLeaves
  dsimp only
  repeat' split
  all_goals simp
@[simp] theorem State.settleLeaves_endB : (s.settleLeaves).endB = s.endB := by
  unfold State.settleLeaves
  dsimp only
  repeat' split
  all_goals simp
@[simp] theorem State.settleLeaves_cc : (s.settleLeaves).cc = s.cc := by
  unfold State.settleLeaves
  dsimp only
  repeat' split
  all_goals simp
@[simp] theorem State.settleLeaves_rxp : (s.settleLeaves).rxp = s.rxp := by
  unfold State.settleLeaves
  dsimp only
  repeat' split
  all_goals simp
@[simp] theorem State.settleLeaves_lhu : (s.settleLeaves).lhu = s.lhu := by
  unfold State.settleLeaves
  dsimp only
  repeat' split
  all_goals simp
@[simp] theorem State.settleLeaves_otb : (s.settleLeaves).otb = s.otb := by
  unfold State.settleLeaves
  dsimp only
  repeat' split
  all_goals simp
@[simp] theorem State.settleLeaves_dlc : (s.settleLeaves).dlc = s.dlc := by
  unfold State.settleLeaves
  dsimp only
  repeat' split
  all_goals simp
@[simp] theorem State.settleLeaves_hsu : (s.settleLeaves).hsu = s.hsu := by
  unfold State.settleLeaves
  dsimp only
  repeat' split
  all_goals simp
@[simp] theorem State.settleLeaves_pending : (s.settleLeaves).pending = s.pending := by
  unfold State.settleLeaves
  dsimp only
  repeat' split
  all_goals simp

/-! ### faultLeaf -/

@[simp] theorem State.faultLeaf_pins (l : Leaf) (r : FaultReason) : (s.faultLeaf l r).pins = s.pins := by
  simp [State.faultLeaf]
@[simp] theorem State.faultLeaf_straps (l : Leaf) (r : FaultReason) : (s.faultLeaf l r).straps = s.straps := by
  simp [State.faultLeaf]
@[simp] theorem State.faultLeaf_inReset (l : Leaf) (r : FaultReason) : (s.faultLeaf l r).inReset = s.inReset := by
  simp [State.faultLeaf]
@[simp] theorem State.faultLeaf_now (l : Leaf) (r : FaultReason) : (s.faultLeaf l r).now = s.now := by
  simp [State.faultLeaf]
@[simp] theorem State.faultLeaf_endA (l : Leaf) (r : FaultReason) : (s.faultLeaf l r).endA = s.endA := by
  simp [State.faultLeaf]
@[simp] theorem State.faultLeaf_endB (l : Leaf) (r : FaultReason) : (s.faultLeaf l r).endB = s.endB := by
  simp [State.faultLeaf]
@[simp] theorem State.faultLeaf_cc (l : Leaf) (r : FaultReason) : (s.faultLeaf l r).cc = s.cc := by
  simp [State.faultLeaf]
@[simp] theorem State.faultLeaf_rxp (l : Leaf) (r : FaultReason) : (s.faultLeaf l r).rxp = s.rxp := by
  simp [State.faultLeaf]
@[simp] theorem State.faultLeaf_lhu (l : Leaf) (r : FaultReason) : (s.faultLeaf l r).lhu = s.lhu := by
  simp [State.faultLeaf]
@[simp] theorem State.faultLeaf_hsu (l : Leaf) (r : FaultReason) : (s.faultLeaf l r).hsu = s.hsu := by
  simp [State.faultLeaf]
@[simp] theorem State.faultLeaf_pending (l : Leaf) (r : FaultReason) : (s.faultLeaf l r).pending = s.pending := by
  simp [State.faultLeaf]

/-! ### dcuLeaveFormed -/

@[simp] theorem State.dcuLeaveFormed_pins : (s.dcuLeaveFormed).pins = s.pins := by
  simp [State.dcuLeaveFormed]
@[simp] theorem State.dcuLeaveFormed_straps : (s.dcuLeaveFormed).straps = s.straps := by
  simp [State.dcuLeaveFormed]
@[simp] theorem State.dcuLeaveFormed_inReset : (s.dcuLeaveFormed).inReset = s.inReset := by
  simp [State.dcuLeaveFormed]
@[simp] theorem State.dcuLeaveFormed_now : (s.dcuLeaveFormed).now = s.now := by
  simp [State.dcuLeaveFormed]
@[simp] theorem State.dcuLeaveFormed_endA : (s.dcuLeaveFormed).endA = s.endA := by
  simp [State.dcuLeaveFormed]
@[simp] theorem State.dcuLeaveFormed_endB : (s.dcuLeaveFormed).endB = s.endB := by
  simp [State.dcuLeaveFormed]
@[simp] theorem State.dcuLeaveFormed_cc : (s.dcuLeaveFormed).cc = s.cc := by
  simp [State.dcuLeaveFormed]
@[simp] theorem State.dcuLeaveFormed_lau : (s.dcuLeaveFormed).lau = s.lau := by
  simp [State.dcuLeaveFormed]
@[simp] theorem State.dcuLeaveFormed_rxp : (s.dcuLeaveFormed).rxp = s.rxp := by
  simp [State.dcuLeaveFormed]
@[simp] theorem State.dcuLeaveFormed_lhu : (s.dcuLeaveFormed).lhu = s.lhu := by
  simp [State.dcuLeaveFormed]
@[simp] theorem State.dcuLeaveFormed_otb : (s.dcuLeaveFormed).otb = s.otb := by
  simp [State.dcuLeaveFormed]
@[simp] theorem State.dcuLeaveFormed_dlc : (s.dcuLeaveFormed).dlc = s.dlc := by
  simp [State.dcuLeaveFormed]
@[simp] theorem State.dcuLeaveFormed_hsu : (s.dcuLeaveFormed).hsu = s.hsu := by
  simp [State.dcuLeaveFormed]
@[simp] theorem State.dcuLeaveFormed_pending : (s.dcuLeaveFormed).pending = s.pending := by
  simp [State.dcuLeaveFormed]

/-! ### dcuFormedEntry -/

@[simp] theorem State.dcuFormedEntry_pins : (s.dcuFormedEntry).pins = s.pins := by
  simp [State.dcuFormedEntry]
@[simp] theorem State.dcuFormedEntry_straps : (s.dcuFormedEntry).straps = s.straps := by
  simp [State.dcuFormedEntry]
@[simp] theorem State.dcuFormedEntry_inReset : (s.dcuFormedEntry).inReset = s.inReset := by
  simp [State.dcuFormedEntry]
@[simp] theorem State.dcuFormedEntry_now : (s.dcuFormedEntry).now = s.now := by
  simp [State.dcuFormedEntry]
@[simp] theorem State.dcuFormedEntry_endA : (s.dcuFormedEntry).endA = s.endA := by
  simp [State.dcuFormedEntry]
@[simp] theorem State.dcuFormedEntry_endB : (s.dcuFormedEntry).endB = s.endB := by
  simp [State.dcuFormedEntry]
@[simp] theorem State.dcuFormedEntry_cc : (s.dcuFormedEntry).cc = s.cc := by
  simp [State.dcuFormedEntry]
@[simp] theorem State.dcuFormedEntry_rxp : (s.dcuFormedEntry).rxp = s.rxp := by
  simp [State.dcuFormedEntry]
@[simp] theorem State.dcuFormedEntry_lhu : (s.dcuFormedEntry).lhu = s.lhu := by
  simp [State.dcuFormedEntry]
@[simp] theorem State.dcuFormedEntry_otb : (s.dcuFormedEntry).otb = s.otb := by
  simp [State.dcuFormedEntry]
@[simp] theorem State.dcuFormedEntry_dlc : (s.dcuFormedEntry).dlc = s.dlc := by
  simp [State.dcuFormedEntry]
@[simp] theorem State.dcuFormedEntry_hsu : (s.dcuFormedEntry).hsu = s.hsu := by
  simp [State.dcuFormedEntry]
@[simp] theorem State.dcuFormedEntry_pending : (s.dcuFormedEntry).pending = s.pending := by
  simp [State.dcuFormedEntry]

/-! ### hsuFormedEntry -/

@[simp] theorem State.hsuFormedEntry_pins : (s.hsuFormedEntry).pins = s.pins := by
  simp [State.hsuFormedEntry]
@[simp] theorem State.hsuFormedEntry_straps : (s.hsuFormedEntry).straps = s.straps := by
  simp [State.hsuFormedEntry]
@[simp] theorem State.hsuFormedEntry_inReset : (s.hsuFormedEntry).inReset = s.inReset := by
  simp [State.hsuFormedEntry]
@[simp] theorem State.hsuFormedEntry_now : (s.hsuFormedEntry).now = s.now := by
  simp [State.hsuFormedEntry]
@[simp] theorem State.hsuFormedEntry_endA : (s.hsuFormedEntry).endA = s.endA := by
  simp [State.hsuFormedEntry]
@[simp] theorem State.hsuFormedEntry_endB : (s.hsuFormedEntry).endB = s.endB := by
  simp [State.hsuFormedEntry]
@[simp] theorem State.hsuFormedEntry_cc : (s.hsuFormedEntry).cc = s.cc := by
  simp [State.hsuFormedEntry]
@[simp] theorem State.hsuFormedEntry_rxp : (s.hsuFormedEntry).rxp = s.rxp := by
  simp [State.hsuFormedEntry]
@[simp] theorem State.hsuFormedEntry_lhu : (s.hsuFormedEntry).lhu = s.lhu := by
  simp [State.hsuFormedEntry]
@[simp] theorem State.hsuFormedEntry_dlc : (s.hsuFormedEntry).dlc = s.dlc := by
  simp [State.hsuFormedEntry]
@[simp] theorem State.hsuFormedEntry_dcu : (s.hsuFormedEntry).dcu = s.dcu := by
  simp [State.hsuFormedEntry]
@[simp] theorem State.hsuFormedEntry_port : (s.hsuFormedEntry).port = s.port := by
  simp [State.hsuFormedEntry]
@[simp] theorem State.hsuFormedEntry_pending : (s.hsuFormedEntry).pending = s.pending := by
  simp [State.hsuFormedEntry]

/-! ### enterGather -/

@[simp] theorem State.enterGather_pins : (s.enterGather).pins = s.pins := by
  simp [State.enterGather]
@[simp] theorem State.enterGather_straps : (s.enterGather).straps = s.straps := by
  simp [State.enterGather]
@[simp] theorem State.enterGather_inReset : (s.enterGather).inReset = s.inReset := by
  simp [State.enterGather]
@[simp] theorem State.enterGather_now : (s.enterGather).now = s.now := by
  simp [State.enterGather]
@[simp] theorem State.enterGather_endA : (s.enterGather).endA = s.endA := by
  simp [State.enterGather]
@[simp] theorem State.enterGather_endB : (s.enterGather).endB = s.endB := by
  simp [State.enterGather]
@[simp] theorem State.enterGather_rxp : (s.enterGather).rxp = s.rxp := by
  simp [State.enterGather]
@[simp] theorem State.enterGather_lhu : (s.enterGather).lhu = s.lhu := by
  simp [State.enterGather]
@[simp] theorem State.enterGather_otb : (s.enterGather).otb = s.otb := by
  simp [State.enterGather]
@[simp] theorem State.enterGather_dlc : (s.enterGather).dlc = s.dlc := by
  simp [State.enterGather]
@[simp] theorem State.enterGather_dcu : (s.enterGather).dcu = s.dcu := by
  simp [State.enterGather]
@[simp] theorem State.enterGather_hsu : (s.enterGather).hsu = s.hsu := by
  simp [State.enterGather]
@[simp] theorem State.enterGather_port : (s.enterGather).port = s.port := by
  simp [State.enterGather]
@[simp] theorem State.enterGather_pending : (s.enterGather).pending = s.pending := by
  simp [State.enterGather]

/-! ### tellLeft -/

@[simp] theorem State.tellLeft_pins (w : Bool) : (s.tellLeft w).pins = s.pins := by
  unfold State.tellLeft
  split <;> simp
@[simp] theorem State.tellLeft_straps (w : Bool) : (s.tellLeft w).straps = s.straps := by
  unfold State.tellLeft
  split <;> simp
@[simp] theorem State.tellLeft_inReset (w : Bool) : (s.tellLeft w).inReset = s.inReset := by
  unfold State.tellLeft
  split <;> simp
@[simp] theorem State.tellLeft_now (w : Bool) : (s.tellLeft w).now = s.now := by
  unfold State.tellLeft
  split <;> simp
@[simp] theorem State.tellLeft_endA (w : Bool) : (s.tellLeft w).endA = s.endA := by
  unfold State.tellLeft
  split <;> simp
@[simp] theorem State.tellLeft_endB (w : Bool) : (s.tellLeft w).endB = s.endB := by
  unfold State.tellLeft
  split <;> simp
@[simp] theorem State.tellLeft_cc (w : Bool) : (s.tellLeft w).cc = s.cc := by
  unfold State.tellLeft
  split <;> simp
@[simp] theorem State.tellLeft_lau (w : Bool) : (s.tellLeft w).lau = s.lau := by
  unfold State.tellLeft
  split <;> simp
@[simp] theorem State.tellLeft_rxp (w : Bool) : (s.tellLeft w).rxp = s.rxp := by
  unfold State.tellLeft
  split <;> simp
@[simp] theorem State.tellLeft_lhu (w : Bool) : (s.tellLeft w).lhu = s.lhu := by
  unfold State.tellLeft
  split <;> simp
@[simp] theorem State.tellLeft_otb (w : Bool) : (s.tellLeft w).otb = s.otb := by
  unfold State.tellLeft
  split <;> simp
@[simp] theorem State.tellLeft_dlc (w : Bool) : (s.tellLeft w).dlc = s.dlc := by
  unfold State.tellLeft
  split <;> simp
@[simp] theorem State.tellLeft_pending (w : Bool) : (s.tellLeft w).pending = s.pending := by
  unfold State.tellLeft
  split <;> simp

/-! ### startFormation -/

@[simp] theorem State.startFormation_pins (r : ReformReason) : (s.startFormation r).pins = s.pins := by
  simp [State.startFormation]
@[simp] theorem State.startFormation_straps (r : ReformReason) : (s.startFormation r).straps = s.straps := by
  simp [State.startFormation]
@[simp] theorem State.startFormation_inReset (r : ReformReason) : (s.startFormation r).inReset = s.inReset := by
  simp [State.startFormation]
@[simp] theorem State.startFormation_now (r : ReformReason) : (s.startFormation r).now = s.now := by
  simp [State.startFormation]
@[simp] theorem State.startFormation_endA (r : ReformReason) : (s.startFormation r).endA = s.endA := by
  simp [State.startFormation]
@[simp] theorem State.startFormation_endB (r : ReformReason) : (s.startFormation r).endB = s.endB := by
  simp [State.startFormation]
@[simp] theorem State.startFormation_rxp (r : ReformReason) : (s.startFormation r).rxp = s.rxp := by
  simp [State.startFormation]
@[simp] theorem State.startFormation_lhu (r : ReformReason) : (s.startFormation r).lhu = s.lhu := by
  simp [State.startFormation]
@[simp] theorem State.startFormation_otb (r : ReformReason) : (s.startFormation r).otb = s.otb := by
  simp [State.startFormation]
@[simp] theorem State.startFormation_dlc (r : ReformReason) : (s.startFormation r).dlc = s.dlc := by
  simp [State.startFormation]
@[simp] theorem State.startFormation_pending (r : ReformReason) : (s.startFormation r).pending = s.pending := by
  simp [State.startFormation]

/-! ### adopt -/

@[simp] theorem State.adopt_pins (n : FormationNumber) (r : LeftReason) : (s.adopt n r).pins = s.pins := by
  simp [State.adopt]
@[simp] theorem State.adopt_straps (n : FormationNumber) (r : LeftReason) : (s.adopt n r).straps = s.straps := by
  simp [State.adopt]
@[simp] theorem State.adopt_inReset (n : FormationNumber) (r : LeftReason) : (s.adopt n r).inReset = s.inReset := by
  simp [State.adopt]
@[simp] theorem State.adopt_now (n : FormationNumber) (r : LeftReason) : (s.adopt n r).now = s.now := by
  simp [State.adopt]
@[simp] theorem State.adopt_endA (n : FormationNumber) (r : LeftReason) : (s.adopt n r).endA = s.endA := by
  simp [State.adopt]
@[simp] theorem State.adopt_endB (n : FormationNumber) (r : LeftReason) : (s.adopt n r).endB = s.endB := by
  simp [State.adopt]
@[simp] theorem State.adopt_rxp (n : FormationNumber) (r : LeftReason) : (s.adopt n r).rxp = s.rxp := by
  simp [State.adopt]
@[simp] theorem State.adopt_lhu (n : FormationNumber) (r : LeftReason) : (s.adopt n r).lhu = s.lhu := by
  simp [State.adopt]
@[simp] theorem State.adopt_otb (n : FormationNumber) (r : LeftReason) : (s.adopt n r).otb = s.otb := by
  simp [State.adopt]
@[simp] theorem State.adopt_dlc (n : FormationNumber) (r : LeftReason) : (s.adopt n r).dlc = s.dlc := by
  simp [State.adopt]
@[simp] theorem State.adopt_pending (n : FormationNumber) (r : LeftReason) : (s.adopt n r).pending = s.pending := by
  simp [State.adopt]

/-! ### followCab -/

@[simp] theorem State.followCab_pins : (s.followCab).pins = s.pins := by
  unfold State.followCab
  dsimp only
  split <;> rfl
@[simp] theorem State.followCab_straps : (s.followCab).straps = s.straps := by
  unfold State.followCab
  dsimp only
  split <;> rfl
@[simp] theorem State.followCab_inReset : (s.followCab).inReset = s.inReset := by
  unfold State.followCab
  dsimp only
  split <;> rfl
@[simp] theorem State.followCab_now : (s.followCab).now = s.now := by
  unfold State.followCab
  dsimp only
  split <;> rfl
@[simp] theorem State.followCab_endA : (s.followCab).endA = s.endA := by
  unfold State.followCab
  dsimp only
  split <;> rfl
@[simp] theorem State.followCab_endB : (s.followCab).endB = s.endB := by
  unfold State.followCab
  dsimp only
  split <;> rfl
@[simp] theorem State.followCab_lau : (s.followCab).lau = s.lau := by
  unfold State.followCab
  dsimp only
  split <;> rfl
@[simp] theorem State.followCab_rxp : (s.followCab).rxp = s.rxp := by
  unfold State.followCab
  dsimp only
  split <;> rfl
@[simp] theorem State.followCab_lhu : (s.followCab).lhu = s.lhu := by
  unfold State.followCab
  dsimp only
  split <;> rfl
@[simp] theorem State.followCab_otb : (s.followCab).otb = s.otb := by
  unfold State.followCab
  dsimp only
  split <;> rfl
@[simp] theorem State.followCab_dlc : (s.followCab).dlc = s.dlc := by
  unfold State.followCab
  dsimp only
  split <;> rfl
@[simp] theorem State.followCab_dcu : (s.followCab).dcu = s.dcu := by
  unfold State.followCab
  dsimp only
  split <;> rfl
@[simp] theorem State.followCab_hsu : (s.followCab).hsu = s.hsu := by
  unfold State.followCab
  dsimp only
  split <;> rfl
@[simp] theorem State.followCab_pending : (s.followCab).pending = s.pending := by
  unfold State.followCab
  dsimp only
  split <;> rfl

/-! ### enterFormed -/

@[simp] theorem State.enterFormed_pins (o : CandidateOrder) : (s.enterFormed o).pins = s.pins := by
  simp [State.enterFormed]
@[simp] theorem State.enterFormed_straps (o : CandidateOrder) : (s.enterFormed o).straps = s.straps := by
  simp [State.enterFormed]
@[simp] theorem State.enterFormed_inReset (o : CandidateOrder) : (s.enterFormed o).inReset = s.inReset := by
  simp [State.enterFormed]
@[simp] theorem State.enterFormed_now (o : CandidateOrder) : (s.enterFormed o).now = s.now := by
  simp [State.enterFormed]
@[simp] theorem State.enterFormed_endA (o : CandidateOrder) : (s.enterFormed o).endA = s.endA := by
  simp [State.enterFormed]
@[simp] theorem State.enterFormed_endB (o : CandidateOrder) : (s.enterFormed o).endB = s.endB := by
  simp [State.enterFormed]
@[simp] theorem State.enterFormed_rxp (o : CandidateOrder) : (s.enterFormed o).rxp = s.rxp := by
  simp [State.enterFormed]
@[simp] theorem State.enterFormed_lhu (o : CandidateOrder) : (s.enterFormed o).lhu = s.lhu := by
  simp [State.enterFormed]
@[simp] theorem State.enterFormed_dlc (o : CandidateOrder) : (s.enterFormed o).dlc = s.dlc := by
  simp [State.enterFormed]
@[simp] theorem State.enterFormed_pending (o : CandidateOrder) : (s.enterFormed o).pending = s.pending := by
  simp [State.enterFormed]

/-! ### soloCab -/

@[simp] theorem State.soloCab_pins : (s.soloCab).pins = s.pins := by
  unfold State.soloCab
  split <;> rfl
@[simp] theorem State.soloCab_straps : (s.soloCab).straps = s.straps := by
  unfold State.soloCab
  split <;> rfl
@[simp] theorem State.soloCab_inReset : (s.soloCab).inReset = s.inReset := by
  unfold State.soloCab
  split <;> rfl
@[simp] theorem State.soloCab_now : (s.soloCab).now = s.now := by
  unfold State.soloCab
  split <;> rfl
@[simp] theorem State.soloCab_endA : (s.soloCab).endA = s.endA := by
  unfold State.soloCab
  split <;> rfl
@[simp] theorem State.soloCab_endB : (s.soloCab).endB = s.endB := by
  unfold State.soloCab
  split <;> rfl
@[simp] theorem State.soloCab_lau : (s.soloCab).lau = s.lau := by
  unfold State.soloCab
  split <;> rfl
@[simp] theorem State.soloCab_rxp : (s.soloCab).rxp = s.rxp := by
  unfold State.soloCab
  split <;> rfl
@[simp] theorem State.soloCab_lhu : (s.soloCab).lhu = s.lhu := by
  unfold State.soloCab
  split <;> rfl
@[simp] theorem State.soloCab_otb : (s.soloCab).otb = s.otb := by
  unfold State.soloCab
  split <;> rfl
@[simp] theorem State.soloCab_dlc : (s.soloCab).dlc = s.dlc := by
  unfold State.soloCab
  split <;> rfl
@[simp] theorem State.soloCab_dcu : (s.soloCab).dcu = s.dcu := by
  unfold State.soloCab
  split <;> rfl
@[simp] theorem State.soloCab_hsu : (s.soloCab).hsu = s.hsu := by
  unfold State.soloCab
  split <;> rfl
@[simp] theorem State.soloCab_pending : (s.soloCab).pending = s.pending := by
  unfold State.soloCab
  split <;> rfl

/-! ### enterSolo -/

@[simp] theorem State.enterSolo_pins : (s.enterSolo).pins = s.pins := by
  simp [State.enterSolo]
@[simp] theorem State.enterSolo_straps : (s.enterSolo).straps = s.straps := by
  simp [State.enterSolo]
@[simp] theorem State.enterSolo_inReset : (s.enterSolo).inReset = s.inReset := by
  simp [State.enterSolo]
@[simp] theorem State.enterSolo_now : (s.enterSolo).now = s.now := by
  simp [State.enterSolo]
@[simp] theorem State.enterSolo_endA : (s.enterSolo).endA = s.endA := by
  simp [State.enterSolo]
@[simp] theorem State.enterSolo_endB : (s.enterSolo).endB = s.endB := by
  simp [State.enterSolo]
@[simp] theorem State.enterSolo_lau : (s.enterSolo).lau = s.lau := by
  simp [State.enterSolo]
@[simp] theorem State.enterSolo_rxp : (s.enterSolo).rxp = s.rxp := by
  simp [State.enterSolo]
@[simp] theorem State.enterSolo_lhu : (s.enterSolo).lhu = s.lhu := by
  simp [State.enterSolo]
@[simp] theorem State.enterSolo_dlc : (s.enterSolo).dlc = s.dlc := by
  simp [State.enterSolo]
@[simp] theorem State.enterSolo_dcu : (s.enterSolo).dcu = s.dcu := by
  simp [State.enterSolo]
@[simp] theorem State.enterSolo_hsu : (s.enterSolo).hsu = s.hsu := by
  simp [State.enterSolo]
@[simp] theorem State.enterSolo_pending : (s.enterSolo).pending = s.pending := by
  simp [State.enterSolo]

/-! ### failFormation -/

@[simp] theorem State.failFormation_pins (r : ReformReason) : (s.failFormation r).pins = s.pins := by
  unfold State.failFormation
  dsimp only
  split <;> simp
@[simp] theorem State.failFormation_straps (r : ReformReason) : (s.failFormation r).straps = s.straps := by
  unfold State.failFormation
  dsimp only
  split <;> simp
@[simp] theorem State.failFormation_inReset (r : ReformReason) : (s.failFormation r).inReset = s.inReset := by
  unfold State.failFormation
  dsimp only
  split <;> simp
@[simp] theorem State.failFormation_now (r : ReformReason) : (s.failFormation r).now = s.now := by
  unfold State.failFormation
  dsimp only
  split <;> simp
@[simp] theorem State.failFormation_endA (r : ReformReason) : (s.failFormation r).endA = s.endA := by
  unfold State.failFormation
  dsimp only
  split <;> simp
@[simp] theorem State.failFormation_endB (r : ReformReason) : (s.failFormation r).endB = s.endB := by
  unfold State.failFormation
  dsimp only
  split <;> simp
@[simp] theorem State.failFormation_rxp (r : ReformReason) : (s.failFormation r).rxp = s.rxp := by
  unfold State.failFormation
  dsimp only
  split <;> simp
@[simp] theorem State.failFormation_lhu (r : ReformReason) : (s.failFormation r).lhu = s.lhu := by
  unfold State.failFormation
  dsimp only
  split <;> simp
@[simp] theorem State.failFormation_dlc (r : ReformReason) : (s.failFormation r).dlc = s.dlc := by
  unfold State.failFormation
  dsimp only
  split <;> simp
@[simp] theorem State.failFormation_pending (r : ReformReason) : (s.failFormation r).pending = s.pending := by
  unfold State.failFormation
  dsimp only
  split <;> simp

/-! ### giveResult -/

@[simp] theorem State.giveResult_pins (f : Frame) (r : TxResult) : (s.giveResult f r).pins = s.pins := by
  unfold State.giveResult
  split <;> (try rfl)
  all_goals first
    | (unfold State.copyStale; split <;> rfl)
    | (unfold State.holdSent; dsimp only; repeat' split
       all_goals rfl)
    | (unfold State.holdLost; split <;> rfl)
@[simp] theorem State.giveResult_straps (f : Frame) (r : TxResult) : (s.giveResult f r).straps = s.straps := by
  unfold State.giveResult
  split <;> (try rfl)
  all_goals first
    | (unfold State.copyStale; split <;> rfl)
    | (unfold State.holdSent; dsimp only; repeat' split
       all_goals rfl)
    | (unfold State.holdLost; split <;> rfl)
@[simp] theorem State.giveResult_inReset (f : Frame) (r : TxResult) : (s.giveResult f r).inReset = s.inReset := by
  unfold State.giveResult
  split <;> (try rfl)
  all_goals first
    | (unfold State.copyStale; split <;> rfl)
    | (unfold State.holdSent; dsimp only; repeat' split
       all_goals rfl)
    | (unfold State.holdLost; split <;> rfl)
@[simp] theorem State.giveResult_now (f : Frame) (r : TxResult) : (s.giveResult f r).now = s.now := by
  unfold State.giveResult
  split <;> (try rfl)
  all_goals first
    | (unfold State.copyStale; split <;> rfl)
    | (unfold State.holdSent; dsimp only; repeat' split
       all_goals rfl)
    | (unfold State.holdLost; split <;> rfl)
@[simp] theorem State.giveResult_endA (f : Frame) (r : TxResult) : (s.giveResult f r).endA = s.endA := by
  unfold State.giveResult
  split <;> (try rfl)
  all_goals first
    | (unfold State.copyStale; split <;> rfl)
    | (unfold State.holdSent; dsimp only; repeat' split
       all_goals rfl)
    | (unfold State.holdLost; split <;> rfl)
@[simp] theorem State.giveResult_endB (f : Frame) (r : TxResult) : (s.giveResult f r).endB = s.endB := by
  unfold State.giveResult
  split <;> (try rfl)
  all_goals first
    | (unfold State.copyStale; split <;> rfl)
    | (unfold State.holdSent; dsimp only; repeat' split
       all_goals rfl)
    | (unfold State.holdLost; split <;> rfl)
@[simp] theorem State.giveResult_cc (f : Frame) (r : TxResult) : (s.giveResult f r).cc = s.cc := by
  unfold State.giveResult
  split <;> (try rfl)
  all_goals first
    | (unfold State.copyStale; split <;> rfl)
    | (unfold State.holdSent; dsimp only; repeat' split
       all_goals rfl)
    | (unfold State.holdLost; split <;> rfl)
@[simp] theorem State.giveResult_rxp (f : Frame) (r : TxResult) : (s.giveResult f r).rxp = s.rxp := by
  unfold State.giveResult
  split <;> (try rfl)
  all_goals first
    | (unfold State.copyStale; split <;> rfl)
    | (unfold State.holdSent; dsimp only; repeat' split
       all_goals rfl)
    | (unfold State.holdLost; split <;> rfl)
@[simp] theorem State.giveResult_otb (f : Frame) (r : TxResult) : (s.giveResult f r).otb = s.otb := by
  unfold State.giveResult
  split <;> (try rfl)
  all_goals first
    | (unfold State.copyStale; split <;> rfl)
    | (unfold State.holdSent; dsimp only; repeat' split
       all_goals rfl)
    | (unfold State.holdLost; split <;> rfl)
@[simp] theorem State.giveResult_dlc (f : Frame) (r : TxResult) : (s.giveResult f r).dlc = s.dlc := by
  unfold State.giveResult
  split <;> (try rfl)
  all_goals first
    | (unfold State.copyStale; split <;> rfl)
    | (unfold State.holdSent; dsimp only; repeat' split
       all_goals rfl)
    | (unfold State.holdLost; split <;> rfl)
@[simp] theorem State.giveResult_pending (f : Frame) (r : TxResult) : (s.giveResult f r).pending = s.pending := by
  unfold State.giveResult
  split <;> (try rfl)
  all_goals first
    | (unfold State.copyStale; split <;> rfl)
    | (unfold State.holdSent; dsimp only; repeat' split
       all_goals rfl)
    | (unfold State.holdLost; split <;> rfl)

end Sys2Proof.Machine
end

