-- ==== Sys2Proof/Laws/EndLinks.lean ====
section
/-! SUPPORT. What an end's receiver does with the characters of a beacon (R1, R6). -/

namespace Sys2Proof.Machine

/-! ### Characters -/

/-- The state whose end has a receiver of its own, at a moment. -/
def State.hearing (s : State) (e : CoachEnd) (now : Time) (r : EndReceiver) : State :=
  (s.setNow now).setEnd e { s.endLink e with rx := r }

theorem State.hearing_self (s : State) (e : CoachEnd) : s.hearing e s.now (s.endLink e).rx = s := by
  cases e <;> rfl

/-- A character at a listening receiver that has no faulty reception to end first. -/
theorem State.receiveChar_hearing (s : State) (e : CoachEnd) (now : Time) (r : EndReceiver) (c : LineChar)
    (hs : (s.endLink e).state ≠ .openEnd) (hq : r.quietFrom ≤ c.start)
    (hf : ∀ f, r.faultAt = some f → c.start < f) :
    (s.hearing e now r).receiveChar e c =
      match (r.take c).2 with
      | some bytes => (s.hearing e (max now (c.start + Config.tECHR)) (r.take c).1).arriveBeacon e bytes
      | none => s.hearing e (max now (c.start + Config.tECHR)) (r.take c).1 := by
  have hrx : ((s.hearing e now r).endLink e).rx = r := by simp [State.hearing]
  have hl : ((s.hearing e now r).endLink e).listening = true := by simp [State.hearing, EndLink.listening, hs]
  have hend : (s.hearing e now r).endFaultyBy e c.start = s.hearing e now r := by
    unfold State.endFaultyBy State.faultOccasion
    rw [hl, if_pos rfl, hrx]
    cases h : r.faultAt with
    | none => rfl
    | some f => simp [Nat.not_le.mpr (hf f h)]
  unfold State.receiveChar
  rw [hl, hrx, hend, if_neg (by simp [Nat.not_lt.mpr hq])]
  cases e <;> rfl

/-- The first character of a beacon, after tEGAP of idle. -/
theorem EndReceiver.take_first (r : EndReceiver) (c : LineChar) (hc : c.stop = true)
    (hq : r.quietFrom + Config.tEGAP ≤ c.start) :
    r.take c = ({ quietFrom := c.start + Config.tECHR, phase := .assembling [charByte c] }, none) := by
  simp [EndReceiver.take, hc, hq]

/-- A further character of a beacon: the sixth completes it. -/
theorem EndReceiver.take_next (r : EndReceiver) (c : LineChar) (bytes : List Byte) (hc : c.stop = true)
    (hp : r.phase = .assembling bytes) (hq : c.start < r.quietFrom + Config.tEGAP) :
    r.take c =
      if bytes.length + 1 = Config.beaconChars then
        ({ quietFrom := c.start + Config.tECHR, phase := .afterBeacon }, some (bytes ++ [charByte c]))
      else ({ quietFrom := c.start + Config.tECHR, phase := .assembling (bytes ++ [charByte c]) }, none) := by
  unfold EndReceiver.take
  simp only [hc, if_neg (Nat.not_le.mpr hq), hp]
  simp

/-- A beacon's six characters at a receiver with no reception in progress: the beacon arrives at the end of
the sixth (R1, R6). -/
theorem State.receiveChars_train (s : State) (e : CoachEnd) (chars : List LineChar)
    (hs : (s.endLink e).state ≠ .openEnd) (hq : (s.endLink e).rx.quiet)
    (ht : beaconTrain ((s.endLink e).rx.quietFrom + Config.tEGAP) chars) :
    s.receiveChars e chars =
      (s.hearing e (max s.now (trainEnd chars)) { quietFrom := trainEnd chars, phase := .afterBeacon }).arriveBeacon e
        (chars.map charByte) := by
  obtain ⟨hlen, hstop, hfirst, hgaps⟩ := ht
  match chars, hlen with
  | [c1, c2, c3, c4, c5, c6], _ =>
    simp only [List.mem_cons, List.not_mem_nil, or_false, forall_eq_or_imp, forall_eq, List.head?_cons,
      Option.mem_def, Option.some.injEq, forall_eq', List.tail_cons, List.zip_cons_cons, List.zip_nil_right]
      at hstop hfirst hgaps
    obtain ⟨s1, s2, s3, s4, s5, s6⟩ := hstop
    obtain ⟨g1, g2, g3, g4, g5⟩ := hgaps
    have next : ∀ (now q : Time) (bytes : List Byte) (c : LineChar), c.stop = true →
        q ≤ c.start → c.start < q + Config.tEGAP →
        (s.hearing e now { quietFrom := q, phase := .assembling bytes }).receiveChar e c =
          if bytes.length + 1 = Config.beaconChars then
            (s.hearing e (max now (c.start + Config.tECHR))
              { quietFrom := c.start + Config.tECHR, phase := .afterBeacon }).arriveBeacon e (bytes ++ [charByte c])
          else
            s.hearing e (max now (c.start + Config.tECHR))
              { quietFrom := c.start + Config.tECHR, phase := .assembling (bytes ++ [charByte c]) } := by
      intro now q bytes c hc hq hg
      rw [s.receiveChar_hearing e now _ c hs hq (fun f hf => by cases hf; exact hg),
        EndReceiver.take_next _ c bytes hc rfl hg]
      by_cases h6 : bytes.length + 1 = Config.beaconChars
      · simp only [if_pos h6]
      · simp only [if_neg h6]
    have first : s.receiveChar e c1 =
        s.hearing e (max s.now (c1.start + Config.tECHR))
          { quietFrom := c1.start + Config.tECHR, phase := .assembling [charByte c1] } := by
      have h := s.receiveChar_hearing e s.now (s.endLink e).rx c1 hs
        (Nat.le_trans (Nat.le_add_right _ _) hfirst)
        (fun f hf => by rcases hq with hq | hq <;> simp [EndReceiver.faultAt, hq] at hf)
      rw [s.hearing_self, EndReceiver.take_first _ c1 s1 hfirst] at h
      exact h
    simp only [State.receiveChars, List.foldl]
    rw [first, next _ _ _ c2 s2 g1.1 g1.2, if_neg (by simp [Config.beaconChars]),
      next _ _ _ c3 s3 g2.1 g2.2, if_neg (by simp [Config.beaconChars]),
      next _ _ _ c4 s4 g3.1 g3.2, if_neg (by simp [Config.beaconChars]),
      next _ _ _ c5 s5 g4.1 g4.2, if_neg (by simp [Config.beaconChars]),
      next _ _ _ c6 s6 g5.1 g5.2, if_pos (by simp)]
    have hmax : max (max (max (max (max (max s.now (c1.start + Config.tECHR)) (c2.start + Config.tECHR))
        (c3.start + Config.tECHR)) (c4.start + Config.tECHR)) (c5.start + Config.tECHR)) (c6.start + Config.tECHR)
        = max s.now (c6.start + Config.tECHR) := by
      simp only [Time] at *
      omega
    rw [hmax]
    rfl

end Sys2Proof.Machine
end

