-- ==== Sys2Proof/Laws/Leaves.lean ====
section
/-! SUPPORT. What a write of one leaf record, and what follows a change of leaf states, can do. -/

namespace Sys2Proof.Machine

/-! ### Leaf records -/

/-- A leaf found under an index has that index. -/
theorem State.leaf?_index (s : State) (i : Nat) (l : Leaf) (h : s.leaf? i = some l) : l.index = i := by
  simpa using List.find?_some h

theorem State.leaf?_of_dlc (s t : State) (h : s.dlc = t.dlc) (i : Nat) : s.leaf? i = t.leaf? i := by
  simp [State.leaf?, h]

@[simp] theorem State.setNow_leaf? (s : State) (v : Time) (i : Nat) : (s.setNow v).leaf? i = s.leaf? i := rfl
@[simp] theorem State.setOtb_leaf? (s : State) (o : Otb) (i : Nat) : (s.setOtb o).leaf? i = s.leaf? i := rfl
@[simp] theorem State.setPort_leaf? (s : State) (p : Port) (i : Nat) : (s.setPort p).leaf? i = s.leaf? i := rfl
@[simp] theorem State.setDcu_leaf? (s : State) (d : Dcu) (i : Nat) : (s.setDcu d).leaf? i = s.leaf? i := rfl
@[simp] theorem State.setLau_leaf? (s : State) (l : Lau) (i : Nat) : (s.setLau l).leaf? i = s.leaf? i := rfl
@[simp] theorem State.post_leaf? (s : State) (n : Notice) (i : Nat) : (s.post n).leaf? i = s.leaf? i := rfl
@[simp] theorem State.count_leaf? (s : State) (c : Counter) (i : Nat) : (s.count c).leaf? i = s.leaf? i := rfl
@[simp] theorem State.settleLeaves_leaf? (s : State) (i : Nat) : s.settleLeaves.leaf? i = s.leaf? i :=
  State.leaf?_of_dlc _ _ (by simp) i

/-- Looking up an index in a list of leaves with the record of one index replaced. -/
theorem find?_replaced (ls : List Leaf) (l' : Leaf) (j : Nat) :
    (ls.map (fun x => if x.index = l'.index then l' else x)).find? (fun x => x.index = j)
      = if j = l'.index ∧ (ls.find? (fun x => x.index = j)).isSome then some l'
        else ls.find? (fun x => x.index = j) := by
  induction ls with
  | nil => simp
  | cons a as ih =>
    simp only [List.map_cons, List.find?_cons, ih]
    by_cases ha : a.index = l'.index <;> by_cases hj : a.index = j <;> by_cases hk : l'.index = j <;>
      simp_all

/-- The record written by `putLeaf` is the one found under its index, and no other index changes. -/
theorem State.putLeaf_leaf? (s : State) (l l' : Leaf) (o : ChannelOrder) (j : Nat)
    (h : s.leaf? l'.index = some l) :
    (s.putLeaf l' o).leaf? j = if j = l'.index then some l' else s.leaf? j := by
  have hf := find?_replaced s.dlc.leaves l' j
  by_cases hj : j = l'.index
  · subst hj
    rw [if_pos rfl]
    have hs : (s.dlc.leaves.find? (fun x => decide (x.index = l'.index))).isSome = true := by
      unfold State.leaf? at h
      rw [h]
      rfl
    rw [if_pos ⟨rfl, hs⟩] at hf
    exact hf
  · rw [if_neg hj]
    rw [if_neg (fun c => hj c.1)] at hf
    exact hf

/-! ### Channels -/

theorem State.putLeaf_otb (s : State) (l : Leaf) (o : ChannelOrder) :
    (s.putLeaf l o).otb = s.otb.order s.now l.index o := rfl

theorem Otb.modify_channel? (o : Otb) (i j : Nat) (f : Channel → Channel) :
    (o.modify i f).channel? j = if i = j then (o.channel? j).map f else o.channel? j := by
  simp only [Otb.modify, Otb.channel?, List.getElem?_modify]
  split
  · rfl
  · cases o.channels[j]? <;> rfl

/-! ### What follows a change -/

@[simp] theorem State.evalDoorsSecure_portCounters (s : State) :
    s.evalDoorsSecure.port.counters = s.port.counters := by
  unfold State.evalDoorsSecure
  split
  · rfl
  · rw [State.post_portCounters]
    rfl

@[simp] theorem State.settleLeaves_portCounters (s : State) :
    s.settleLeaves.port.counters = s.port.counters := by
  unfold State.settleLeaves
  dsimp only
  split
  · rfl
  · rw [State.evalDoorsSecure_portCounters]
    split <;> rfl

theorem State.evalDoorsSecure_mem_notices (s : State) (n : Notice) (h : n ∈ s.port.notices) :
    n ∈ s.evalDoorsSecure.port.notices := by
  unfold State.evalDoorsSecure
  split
  · exact h
  · exact State.mem_post_notices _ _ _ h

/-- What waits in the notice queue waits on when leaf states have changed. -/
theorem State.settleLeaves_mem_notices (s : State) (n : Notice) (h : n ∈ s.port.notices) :
    n ∈ s.settleLeaves.port.notices := by
  unfold State.settleLeaves
  dsimp only
  split
  · exact h
  · apply State.evalDoorsSecure_mem_notices
    split <;> exact h

/-- A FAULT entry sets the record, and its LEAF_FAULT waits when the queue had room for two (R121). -/
theorem State.faultLeaf_leaf? (s : State) (l l' : Leaf) (r : FaultReason) (j : Nat)
    (h : s.leaf? l'.index = some l) :
    (s.faultLeaf l' r).leaf? j = if j = l'.index then some (l'.enterFault s.now r) else s.leaf? j := by
  unfold State.faultLeaf
  rw [State.settleLeaves_leaf?, State.post_leaf?, State.count_leaf?]
  exact s.putLeaf_leaf? l (l'.enterFault s.now r) .stop j h

theorem State.faultLeaf_portCounters (s : State) (l : Leaf) (r : FaultReason) :
    (s.faultLeaf l r).port.counters = s.port.counters.set 12 (s.port.counter 12 + 1) := by
  unfold State.faultLeaf
  rw [State.settleLeaves_portCounters, State.post_portCounters, State.count_portCounters]
  rfl

theorem Port.count_notices_length (p : Port) (i : Nat) :
    (p.count i).notices.length ≤ p.notices.length + 1 := by
  unfold Port.count
  dsimp only
  split
  · unfold Port.post
    dsimp only
    split
    · simp
    · simp
  · simp

theorem State.faultLeaf_notice (s : State) (l : Leaf) (r : FaultReason)
    (h : s.port.notices.length + 1 < Config.noticeCap) :
    .leafFault l.index r ∈ (s.faultLeaf l r).port.notices := by
  unfold State.faultLeaf
  apply State.settleLeaves_mem_notices
  rw [State.post_notices]
  · simp
  · exact Nat.lt_of_le_of_lt (Port.count_notices_length _ _) h

/-! ### Commands at leaves (R110 to R113) -/

/-- No order of an event has its A-match at the start, so none is handed (R99). -/
theorem State.takeStartMatches_none (s : State) (orders : List (Nat × ChannelOrder))
    (h : ∀ x ∈ orders, x.2.matchesAtStart = false) : s.takeStartMatches orders = s := by
  unfold State.takeStartMatches
  induction orders with
  | nil => rfl
  | cons x xs ih =>
    rw [List.foldl_cons, if_neg (by simp [h x (by simp)])]
    exact ih fun y hy => h y (by simp [hy])

/-- A passage whose runs do not start with their A-match: the leaves pass, and the summaries follow. -/
theorem State.onLeaves_eq (s : State) (sides : List Side) (passage : Leaf → Leaf × ChannelOrder)
    (h : ∀ l, (passage l).2.matchesAtStart = false) :
    s.onLeaves sides passage = (s.passLeaves sides passage).settleLeaves := by
  unfold State.onLeaves
  refine State.takeStartMatches_none _ _ ?_
  intro x hx
  obtain ⟨l, -, rfl⟩ := List.mem_map.mp hx
  exact h l

theorem Leaf.release_matchesAtStart (l : Leaf) : l.release.2.matchesAtStart = false := by
  unfold Leaf.release
  cases l.state <;> rfl

theorem Leaf.close_matchesAtStart (l : Leaf) : l.close.2.matchesAtStart = false := by
  unfold Leaf.close
  cases l.state <;> rfl

/-- What a CLOSE does: every leaf passes, and the summaries follow. -/
theorem State.closeLeaves_eq (s : State) (sides : List Side) :
    s.closeLeaves sides = (s.passLeaves sides Leaf.close).settleLeaves :=
  s.onLeaves_eq sides Leaf.close Leaf.close_matchesAtStart

/-- What a RELEASE does in FORMED at the node's number. -/
theorem State.releaseLeaves_eq (s : State) (sides : List Side) (number : FormationNumber)
    (hf : s.isFormed = true) (hn : number = s.cc.number) :
    s.releaseLeaves sides number = (s.passLeaves sides Leaf.release).settleLeaves := by
  unfold State.releaseLeaves
  rw [if_pos ⟨hf, hn⟩]
  exact s.onLeaves_eq sides Leaf.release Leaf.release_matchesAtStart

end Sys2Proof.Machine
end

