-- ==== Sys2Proof/Laws/PerInstr.lean ====
section
/-! SUPPORT. Per command: no word spells it (log entry 4). One lemma per constructor of `Instr`. -/

namespace Sys2Proof.Laws.Wordless

/-- The decoder gives this command for no word of the table's bits, since no row of the table has bits. -/
def Statement (i : Instr) : Prop := ∀ nbits w, decodeTableWord nbits w ≠ some i

theorem externalResetAssert : Statement .externalResetAssert := fun _ _ => nofun
theorem externalResetRelease (pins : StrapPins) : Statement (.externalResetRelease pins) := fun _ _ => nofun
theorem rawContactChange (e : CoachEnd) (level : Bool) : Statement (.rawContactChange e level) := fun _ _ => nofun
theorem debouncedContactActive (e : CoachEnd) : Statement (.debouncedContactActive e) := fun _ _ => nofun
theorem debouncedContactLost (e : CoachEnd) : Statement (.debouncedContactLost e) := fun _ _ => nofun
theorem endBeaconSend (e : CoachEnd) : Statement (.endBeaconSend e) := fun _ _ => nofun
theorem endBeaconArrival (e : CoachEnd) (chars : List LineChar) : Statement (.endBeaconArrival e chars) :=
  fun _ _ => nofun
theorem faultyReception (e : CoachEnd) : Statement (.faultyReception e) := fun _ _ => nofun
theorem beaconLoss (e : CoachEnd) : Statement (.beaconLoss e) := fun _ _ => nofun
theorem tstartExpiry : Statement .tstartExpiry := fun _ _ => nofun
theorem rollRepeat : Statement .rollRepeat := fun _ _ => nofun
theorem gatherTimeout : Statement .gatherTimeout := fun _ _ => nofun
theorem orderingEnd : Statement .orderingEnd := fun _ _ => nofun
theorem tallyRepeat : Statement .tallyRepeat := fun _ _ => nofun
theorem tallyTimeout : Statement .tallyTimeout := fun _ _ => nofun
theorem memberSilent (position : Nat) : Statement (.memberSilent position) := fun _ _ => nofun
theorem reform : Statement .reform := fun _ _ => nofun
theorem cabClaim (code : Byte) : Statement (.cabClaim code) := fun _ _ => nofun
theorem cabRelease (code : Byte) : Statement (.cabRelease code) := fun _ _ => nofun
theorem transmitTake : Statement .transmitTake := fun _ _ => nofun
theorem breakthroughEligible : Statement .breakthroughEligible := fun _ _ => nofun
theorem carrierOnset : Statement .carrierOnset := fun _ _ => nofun
theorem frameSent : Statement .frameSent := fun _ _ => nofun
theorem collision (position : Nat) : Statement (.collision position) := fun _ _ => nofun
theorem jamEnd : Statement .jamEnd := fun _ _ => nofun
theorem backoffExpiry : Statement .backoffExpiry := fun _ _ => nofun
theorem retryAttempt : Statement .retryAttempt := fun _ _ => nofun
theorem lineReset : Statement .lineReset := fun _ _ => nofun
theorem frameArrival (reception : Reception) : Statement (.frameArrival reception) := fun _ _ => nofun
theorem frameTake : Statement .frameTake := fun _ _ => nofun
theorem holdResend : Statement .holdResend := fun _ _ => nofun
theorem ownHoldExpiry : Statement .ownHoldExpiry := fun _ _ => nofun
theorem holdExpiry (peer : NodeId) : Statement (.holdExpiry peer) := fun _ _ => nofun
theorem aMatch (channel : Nat) : Statement (.aMatch channel) := fun _ _ => nofun
theorem bMatch (channel : Nat) : Statement (.bMatch channel) := fun _ _ => nofun
theorem pwmCompareA (channel : Nat) : Statement (.pwmCompareA channel) := fun _ _ => nofun
theorem pwmPeriodEnd (channel : Nat) : Statement (.pwmPeriodEnd channel) := fun _ _ => nofun
theorem rawLeafInputChange (leaf : Nat) (input : LeafInput) (level : Bool) : Statement (.rawLeafInputChange leaf input level) := fun _ _ => nofun
theorem leafInputFiltered (leaf : Nat) (input : LeafInput) : Statement (.leafInputFiltered leaf input) := fun _ _ => nofun
theorem lockComplete (leaf : Nat) : Statement (.lockComplete leaf) := fun _ _ => nofun
theorem unlockFault (leaf : Nat) : Statement (.unlockFault leaf) := fun _ _ => nofun
theorem leafRecovery (leaf : Nat) : Statement (.leafRecovery leaf) := fun _ _ => nofun
theorem isolateOn (leaf onOff : Byte) : Statement (.isolateOn leaf onOff) := fun _ _ => nofun
theorem isolateOff (leaf onOff : Byte) : Statement (.isolateOff leaf onOff) := fun _ _ => nofun
theorem doorIssueRelease (action side rangeFrom rangeTo : Byte) : Statement (.doorIssueRelease action side rangeFrom rangeTo) := fun _ _ => nofun
theorem doorIssueClose (action side rangeFrom rangeTo : Byte) : Statement (.doorIssueClose action side rangeFrom rangeTo) := fun _ _ => nofun
theorem doorcmdRepeat (seq : Byte) : Statement (.doorcmdRepeat seq) := fun _ _ => nofun
theorem doorstatPeriod : Statement .doorstatPeriod := fun _ _ => nofun
theorem doorstatStale (position : Nat) : Statement (.doorstatStale position) := fun _ _ => nofun
theorem heatDemand (channel frost comfort : Byte) : Statement (.heatDemand channel frost comfort) := fun _ _ => nofun
theorem supplyOffer (offer : BitVec 16) : Statement (.supplyOffer offer) := fun _ _ => nofun
theorem heatbidPeriod : Statement .heatbidPeriod := fun _ _ => nofun
theorem bidStale (position : Nat) : Statement (.bidStale position) := fun _ _ => nofun
theorem allocationEnd : Statement .allocationEnd := fun _ _ => nofun
theorem settleExpiry : Statement .settleExpiry := fun _ _ => nofun
theorem holdOverExpiry : Statement .holdOverExpiry := fun _ _ => nofun
theorem status : Statement .status := fun _ _ => nofun
theorem consistRead (start count : Byte) : Statement (.consistRead start count) := fun _ _ => nofun
theorem noticeTake : Statement .noticeTake := fun _ _ => nofun
theorem counterRead (index : Byte) : Statement (.counterRead index) := fun _ _ => nofun
theorem counterDecrement (index : Byte) (amount : BitVec 16) : Statement (.counterDecrement index amount) := fun _ _ => nofun
theorem straps : Statement .straps := fun _ _ => nofun
theorem unknownRequest (kind : Byte) : Statement (.unknownRequest kind) := fun _ _ => nofun
theorem chipSelectRise : Statement .chipSelectRise := fun _ _ => nofun
theorem responseReady : Statement .responseReady := fun _ _ => nofun
theorem chipSelectFall : Statement .chipSelectFall := fun _ _ => nofun

end Sys2Proof.Laws.Wordless
end

