-- ==== Sys2Proof/Laws/Receive.lean ====
section
/-! SUPPORT. What the take of a received frame and a sighting can do (R17, R85, R86, R90). -/

namespace Sys2Proof.Machine

/-! ### Occupancy (R88, R90) -/

/-- A rise of the occupancy touches the LHU and the HOLD slot alone. -/
theorem State.noteRise_eq (s : State) (before after : Nat) :
    ∃ lhu lau, s.noteRise before after = (s.setLhu lhu).setLau lau := by
  unfold State.noteRise
  split
  · exact ⟨_, _, rfl⟩
  · exact ⟨s.lhu, s.lau, rfl⟩

/-- A fall of the occupancy touches the LHU and the HOLD slot alone. -/
theorem State.noteFall_eq (s : State) (after : Nat) : ∃ lhu lau, s.noteFall after = (s.setLhu lhu).setLau lau := by
  unfold State.noteFall
  split
  · exact ⟨_, _, rfl⟩
  · exact ⟨s.lhu, s.lau, rfl⟩

/-! ### FRAME_TAKE -/

/-- A head whose consumer is busy waits (R85). -/
theorem execFrameTake_busy (s : State) (f : Frame) (rest : List Frame) (hq : s.rxp.queue = f :: rest)
    (hb : s.consumerBusy f.kind = true) : execFrameTake s = .next s := by
  simp [execFrameTake, State.dispatchOccasion, hq, hb]

/-- A head whose consumer is free is taken (R86). -/
theorem execFrameTake_free (s : State) (f : Frame) (rest : List Frame) (hr : s.inReset = false)
    (hq : s.rxp.queue = f :: rest) (hb : s.consumerBusy f.kind = false) :
    execFrameTake s = .next (s.takeHead f rest) := by
  have ho : s.dispatchOccasion = some s.now := by simp [State.dispatchOccasion, hq, hb]
  have hn : s.advanceTo s.now = s := by simp [State.advanceTo, State.setNow]
  unfold execFrameTake
  rw [ho, State.onOccasion_some _ _ _ hr, hn, hq]

/-- A CLOSE of the arrival check is a CLOSE of the take (R80, R86). -/
theorem Frame.hasCloseAction_of_isClose (f : Frame) (h : f.isClose = true) : f.hasCloseAction = true := by
  unfold Frame.isClose doorCmdOf at h
  unfold Frame.hasCloseAction
  cases ha : doorActionOf (f.payload.getD 1 0) <;> cases hs : doorSideOf (f.payload.getD 2 0) <;>
    simp_all

/-- A DOORCMD whose action or side holds no encoding is ignored by the DCU (R189). -/
theorem State.takeDoorcmd_invalid (s : State) (f : Frame) (h : doorCmdOf f.payload = none) :
    s.takeDoorcmd f = s := by
  simp [State.takeDoorcmd, h]

/-! ### Sightings (R17) -/

/-- A sighting leaves the line blocks that do not form, the ends, the leaves and the channels. -/
theorem State.sight_frame (s : State) (f : Frame) :
    (s.sight f).rxp = s.rxp ∧ (s.sight f).lhu = s.lhu ∧ (s.sight f).straps = s.straps
      ∧ (s.sight f).endA = s.endA ∧ (s.sight f).endB = s.endB ∧ (s.sight f).dlc = s.dlc
      ∧ (s.sight f).otb = s.otb ∧ (s.sight f).pins = s.pins ∧ (s.sight f).pending = s.pending := by
  unfold State.sight
  split
  · simp
  · split
    · unfold State.sightEqual
      split
      · split
        · unfold State.hearMember
          dsimp only
          split <;> simp
        · split <;> simp
      · simp
    · simp

/-! ### A formation start counts nothing (R18, R19) -/

theorem State.leaveForGather_portCounters (s : State) (r : LeftReason) :
    (s.leaveForGather r).port.counters = s.port.counters := by
  unfold State.leaveForGather
  split <;> simp

theorem State.tellLeft_portCounters (s : State) (b : Bool) : (s.tellLeft b).port.counters = s.port.counters := by
  unfold State.tellLeft
  split <;> simp [State.dcuLeaveFormed, State.hsuLeaveFormed]

theorem State.startFormation_portCounters (s : State) (r : ReformReason) :
    (s.startFormation r).port.counters = s.port.counters := by
  unfold State.startFormation
  rw [State.tellLeft_portCounters, State.enterGather_port, State.leaveForGather_portCounters]
  simp

theorem State.adopt_portCounters (s : State) (n : FormationNumber) (r : LeftReason) :
    (s.adopt n r).port.counters = s.port.counters := by
  unfold State.adopt
  rw [State.tellLeft_portCounters, State.enterGather_port, State.leaveForGather_portCounters]
  simp

/-- A sighting counts nothing. -/
theorem State.sight_portCounters (s : State) (f : Frame) : (s.sight f).port.counters = s.port.counters := by
  unfold State.sight
  split
  · exact s.adopt_portCounters f.number f.leftReason
  · split
    · unfold State.sightEqual
      split
      · split
        · unfold State.hearMember
          dsimp only
          split <;> simp
        · split
          · rfl
          · exact s.startFormation_portCounters .stranger
      · rfl
    · rfl

end Sys2Proof.Machine
end

