-- ==== Sys2Proof/WellFormed.lean ====
section
/-! DEFINITION. Which commands are well formed: operands that a pin, a table position or a channel of the
62C can have, and a row's name that fits its argument bytes. -/

namespace Sys2Proof

/-- A position of the consist table (R47: positions 1 to 32). -/
def wellFormedPosition (p : Nat) : Bool := 1 ≤ p && p ≤ 32

/-- A leaf index, which is also a leaf channel (R107, R95). -/
def wellFormedLeaf (i : Nat) : Bool := i < Config.heaterBase

/-- A heater channel of the OTB (R95). -/
def wellFormedHeater (c : Nat) : Bool := Config.heaterBase ≤ c && c < Config.channelCount

/-- Characters that one conductor can carry: eight data bits each, one after the other (R1). -/
def wellFormedChars : List LineChar → Bool
  | [] => true
  | [c] => c.data.length == 8
  | c :: d :: cs => c.data.length == 8 && c.start + Config.tECHR ≤ d.start && wellFormedChars (d :: cs)

/-- A command is well formed when its operands can occur.
An argument byte that holds no valid encoding is an operand that can occur (R184); a row named after one
encoding does not carry the other one. UNKNOWN_REQUEST carries any byte that is clocked in alone (log entry 22). -/
def Instr.wellFormed : Instr → Bool
  | .externalResetRelease p => p.serial != 0
  | .endBeaconArrival _ cs => wellFormedChars cs
  | .memberSilent p | .doorstatStale p | .bidStale p => wellFormedPosition p
  | .cabClaim c => c != 0x02
  | .cabRelease c => c != 0x01
  | .collision p => p ≤ 472
  | .frameArrival r => r.extraBits < 8
  | .holdExpiry n => n != 0
  | .aMatch c | .bMatch c => wellFormedLeaf c
  | .pwmCompareA c | .pwmPeriodEnd c => wellFormedHeater c
  | .rawLeafInputChange i _ _ | .leafInputFiltered i _ => wellFormedLeaf i
  | .lockComplete i | .unlockFault i | .leafRecovery i => wellFormedLeaf i
  | .isolateOn _ v => v != 0x00
  | .isolateOff _ v => v != 0x01
  | .doorIssueRelease a _ _ _ => a != 0x02
  | .doorIssueClose a _ _ _ => a != 0x01
  | .externalResetAssert | .rawContactChange _ _ | .debouncedContactActive _ | .debouncedContactLost _
  | .endBeaconSend _ | .faultyReception _ | .beaconLoss _ | .tstartExpiry
  | .rollRepeat | .gatherTimeout | .orderingEnd | .tallyRepeat | .tallyTimeout | .reform | .transmitTake
  | .breakthroughEligible | .carrierOnset | .frameSent | .jamEnd | .backoffExpiry | .retryAttempt
  | .lineReset | .frameTake | .holdResend | .ownHoldExpiry | .doorcmdRepeat _ | .doorstatPeriod
  | .heatDemand _ _ _ | .supplyOffer _ | .heatbidPeriod | .allocationEnd | .settleExpiry
  | .holdOverExpiry | .status | .consistRead _ _ | .noticeTake | .counterRead _ | .counterDecrement _ _
  | .straps | .chipSelectRise | .responseReady | .chipSelectFall | .unknownRequest _ => true

end Sys2Proof
end

