-- ==== Sys2Proof/Tests/Slice0.lean ====
section
/-! SUPPORT. Tests of this model's own: ill-formed commands, the spec's worked values, single events on small
states, and a witness for the hypotheses of each statement. -/

namespace Sys2Proof.Tests

open Sys2Proof.Machine

/-! ### Ill-formed commands are refused by the check -/

theorem test_ill_releaseSerialZero :
    (Instr.externalResetRelease { State.resetStraps with serial := 0 }).wellFormed = false := by decide
theorem test_ill_positionZero : (Instr.memberSilent 0).wellFormed = false := by decide
theorem test_ill_positionAbove32 : (Instr.memberSilent 33).wellFormed = false := by decide
theorem test_ill_doorstatStalePosition : (Instr.doorstatStale 33).wellFormed = false := by decide
theorem test_ill_bidStalePosition : (Instr.bidStale 0).wellFormed = false := by decide
theorem test_ill_cabClaimRelease : (Instr.cabClaim 0x02).wellFormed = false := by decide
theorem test_ill_cabReleaseClaim : (Instr.cabRelease 0x01).wellFormed = false := by decide
theorem test_ill_collisionPosition : (Instr.collision 473).wellFormed = false := by decide
theorem test_ill_arrivalExtraBits :
    (Instr.frameArrival { bytes := [], extraBits := 8 }).wellFormed = false := by decide
theorem test_ill_holdExpiryPeer : (Instr.holdExpiry 0).wellFormed = false := by decide
theorem test_ill_aMatchHeater : (Instr.aMatch 8).wellFormed = false := by decide
theorem test_ill_bMatchHeater : (Instr.bMatch 8).wellFormed = false := by decide
theorem test_ill_compareLeafChannel : (Instr.pwmCompareA 7).wellFormed = false := by decide
theorem test_ill_periodChannelTwelve : (Instr.pwmPeriodEnd 12).wellFormed = false := by decide
theorem test_ill_rawInputLeaf : (Instr.rawLeafInputChange 8 .cl true).wellFormed = false := by decide
theorem test_ill_filteredLeaf : (Instr.leafInputFiltered 8 .ob).wellFormed = false := by decide
theorem test_ill_watchLeaves :
    (Instr.lockComplete 8).wellFormed = false ∧ (Instr.unlockFault 8).wellFormed = false
      ∧ (Instr.leafRecovery 8).wellFormed = false := by decide
theorem test_ill_isolateOnOff : (Instr.isolateOn 0 0x00).wellFormed = false := by decide
theorem test_ill_isolateOffOn : (Instr.isolateOff 0 0x01).wellFormed = false := by decide
theorem test_ill_issueReleaseClose : (Instr.doorIssueRelease 0x02 1 1 1).wellFormed = false := by decide
theorem test_ill_issueCloseRelease : (Instr.doorIssueClose 0x01 1 1 1).wellFormed = false := by decide
theorem test_ill_characterBits :
    (Instr.endBeaconArrival .a [{ start := 0, data := List.replicate 7 true, stop := true }]).wellFormed
      = false := by decide
theorem test_ill_charactersOverlap :
    (Instr.endBeaconArrival .a
      [{ start := 0, data := dataBits 0x41, stop := true }, { start := 520, data := dataBits 0x41, stop := true }]
      ).wellFormed = false := by decide

/-! ### Worked values of the spec -/

/-- 11 section 11.2.2: the HEATBID frame, up to its CRC. -/
theorem test_heatbidFrameBytes :
    ({ kind := .heatbid, sender := 0x2C410093, number := 0x032C, position := 3
       payload := heatbidPayload 10 10 100 : Frame }).body
      = [0x31, 0x2C, 0x41, 0x00, 0x93, 0x03, 0x2C, 0x03, 0x04, 0x0A, 0x0A, 0x00, 0x64, 0x00] := by decide

/-- 11 section 11.2.2: 128 bit times. -/
theorem test_heatbidFrameLength :
    ({ kind := .heatbid, sender := 0x2C410093, number := 0x032C, position := 3
       payload := heatbidPayload 10 10 100 : Frame }).bitTimes = 128 := by decide

/-- The check value of CRC-16 with R187's generator and start over the digits 1 to 9. -/
theorem test_crc16Check :
    crc16 [0x31, 0x32, 0x33, 0x34, 0x35, 0x36, 0x37, 0x38, 0x39] = 0x29B1 := by decide +kernel

/-- The check value of a CRC-32 with R191's generator, start and inversion, most significant bit first. -/
theorem test_crc32Check :
    crc32 [0x31, 0x32, 0x33, 0x34, 0x35, 0x36, 0x37, 0x38, 0x39] = 0xFC891918 := by decide +kernel

/-- The check value of CRC-8 with R190's generator over the digits 1 to 9. -/
theorem test_crc8Check :
    crc8 [0x31, 0x32, 0x33, 0x34, 0x35, 0x36, 0x37, 0x38, 0x39] = 0xF4 := by decide +kernel

/-- 06 section 6.7: the stagger examples. -/
theorem test_staggerExamples :
    (List.range 4).map (staggerOffset 1 1) = [0, 500, 1000, 1500] ∧ staggerOffset 2 4 1 = 1000
      ∧ staggerOffset 3 5 1 = 1300 ∧ staggerOffset 24 24 3 = 1416 := by decide

/-- 09 section 9.11.1: the grants of A3. -/
theorem test_allocationA3 :
    allocate
      [{ frost := 20, comfort := 30, offer := 0 }, { frost := 24, comfort := 16, offer := 0 },
       { frost := 10, comfort := 10, offer := 100 }, { frost := 48, comfort := 0, offer := 0 },
       { frost := 16, comfort := 32, offer := 0 }]
      = [{ frost := 16, comfort := 1 }, { frost := 20, comfort := 0 }, { frost := 8, comfort := 0 },
         { frost := 40, comfort := 0 }, { frost := 13, comfort := 1 }] := by decide

/-- 09 section 9.11.2: the grants of A4. -/
theorem test_allocationA4 :
    allocate
      [{ frost := 20, comfort := 30, offer := 0 }, { frost := 24, comfort := 16, offer := 0 },
       { frost := 10, comfort := 10, offer := 100 }, { frost := 12, comfort := 20, offer := 0 },
       { frost := 16, comfort := 32, offer := 0 }]
      = [{ frost := 20, comfort := 5 }, { frost := 24, comfort := 2 }, { frost := 10, comfort := 1 },
         { frost := 12, comfort := 3 }, { frost := 16, comfort := 5 }] := by decide

/-! ### Small states -/

/-- Straps of a cab and supply coach with two leaves a side and two heater channels of 8 kW. -/
def cabPins : StrapPins where
  coachType := .cabSupply
  cabEnd := .a
  leavesS1 := 2
  leavesS2 := 2
  sideRef := .one
  heatCh := 2
  heatKw := 3
  rxPolicy := .keepOld
  outPol := .activeLow
  serial := 0x2B000952

/-- That coach right after release, every door closed. -/
def cabNode : State :=
  ((State.reset.setPins { State.resetPins with cl := List.replicate 8 true }).released (Straps.latch cabPins))

/-- A state with a transaction open for its request. -/
def opened (s : State) : State := s.setPort { s.port with phase := .kind }

/-- A member of a consist with nothing to heat and no leaf. -/
def plainMember (id : NodeId) (cab : CabResult) : Member where
  id := id
  orientation := .a
  cab := cab
  coachType := .cabSupply
  leavesS1 := 0
  leavesS2 := 0
  heaters := 0
  ratedHeat := 0
  supply := false

def memberEntry (id : NodeId) (cab : CabResult) : TableEntry where
  member := plainMember id cab
  silent := false
  lastHeard := 0

/-- The coach FORMED with one neighbour at position 2, in the cab role. -/
def formedNode : State :=
  cabNode.setCc
    { cabNode.cc with
      formState := .formed, number := 7, tStart := none, ownCab := .active
      table :=
        { entries := [memberEntry 0x2B000952 .active, memberEntry 0x2B000333 .noCab]
          stale := false, partialFlag := false } }

/-- The coach in another formation state. -/
def inForm (f : FormState) : State := cabNode.setCc { cabNode.cc with formState := f, tStart := none }

/-- The coach with one leaf's record changed. -/
def withLeaf (f : Leaf → Leaf) : State :=
  cabNode.setDlc { leaves := cabNode.dlc.leaves.map (fun l => if l.index = 0 then f l else l) }

/-- A channel of the coach changed. -/
def withChannel (s : State) (i : Nat) (f : Channel → Channel) : State := s.setOtb (s.otb.modify i f)

/-- A frame of a peer. -/
def peerFrame (k : FrameKind) (n : FormationNumber) (payload : List Byte) : Frame where
  kind := k
  sender := 0x2B000333
  number := n
  position := 0
  payload := payload

/-- The coach while a frame is being received. -/
def receivingNode : State :=
  (cabNode.setPins { cabNode.pins with peerCarrier := true }).setRxp { cabNode.rxp with receiving := true }

/-- The coach with a transmitter state and a current frame. -/
def sendingNode (tx : TxState) (c : CurrentFrame) : State :=
  formedNode.setLau { formedNode.lau with tx := tx, current := some c }

def currentOf (f : Frame) : CurrentFrame where
  frame := f
  collisions := 0
  late := false
  cut := .uncut

/-! ### The spec's events, one step each -/

/-- A counter at 32767 posts its alert with the increment (R180; 10 section 10.9). -/
theorem test_counterAlert :
    ((cabNode.setPort { cabNode.port with counters := List.replicate 14 32767 }).count .leafFaults).port.notices
      = [.counterAlert 12] := by decide

/-- A tally of a different digest fails the formation (R33, R35). -/
theorem test_mismatchCounts :
    (((inForm .tally).failFormation .mismatch).port.counter 10) = 1 := by decide

/-- DOOR_ISSUE of a CLOSE with an inverted range goes to everyone (R129). -/
theorem test_invertedCloseRange : limitRange 8 9 3 = (1, 8) := by decide

/-- The release latches a count of 7 as 4 (R175). -/
theorem test_latchClips : (Straps.latch { cabPins with leavesS1 := 7 }).leavesS1 = 4 := by decide

/-- An outcome is the next state given. -/
def nextIs (o : Host.Outcome State Fault Refusal) (t : State) : Bool :=
  match o with
  | .next u => decide (u = t)
  | .fault _ | .refused _ => false

/-- Step on the front of the queue runs it (STATUS outside a transaction changes nothing). -/
theorem test_stepRunsFront :
    nextIs (step { State.reset with pending := [.status] }) State.reset = true := by decide +kernel

/-- An idle step of a fresh node lets one bit time pass. -/
theorem test_idleStep : nextIs (step State.reset) (State.reset.setNow 1) = true := by decide +kernel

/-- A beacon in its first character when external reset is asserted: the character ends while time passes, and
then the conductor is idle (R13). -/
theorem test_resetLetsTheCharacterEnd :
    let s := { cabNode with endA := cabNode.endA.send cabNode.id .a 0 }.asserted
    nextIs (step s) (s.setNow 1) = true ∧ s.endA.sendingBit 1 = some .start
      ∧ (s.endA.sendingBit 520).isSome = true ∧ s.endA.sendingBit 521 = none := by
  decide +kernel

/-- A carrier that ends in external reset moves its pin alone (R76). -/
theorem test_resetSensesNoCarrier :
    let s := (State.reset.asserted.setPins { State.reset.pins with peerCarrier := true }).setNow 7
    nextIs (exec (.frameArrival { bytes := [], extraBits := 1 }) s) (s.setPins State.reset.pins) = true := by
  decide +kernel

/-- At 500 ms the idle step queues TSTART_EXPIRY (R16). -/
theorem test_startIsDue :
    nextIs (step (State.reset.setNow 500000))
      { State.reset.setNow 500000 with pending := [.tstartExpiry] } = true := by
  decide +kernel

/-! ### Witnesses: states and operands that meet the hypotheses of the statements -/

theorem witness_StepRunsFrontCommand :
    ∃ (c : Instr) (rest : List Instr) (s : State), s.pending = c :: rest :=
  ⟨.status, [], { State.reset with pending := [.status] }, rfl⟩

theorem witness_EmptyQueueLetsTimePass :
    (∃ s t : State, s.pending = [] ∧ t.pending = [] ∧ s.firstDue = none ∧ t.firstDue = some .tstartExpiry)
      ∧ State.reset.asserted.pending = [] ∧ State.reset.asserted.inReset = true :=
  ⟨⟨State.reset, State.reset.setNow 500000, by decide +kernel⟩, rfl, rfl⟩

/-- A state whose next step is STATUS outside a transaction. -/
def asked : State := { cabNode with pending := [.status] }

theorem asked_steps : step asked = .next cabNode := rfl

theorem witness_TransmitStoreSoundKept :
    asked.transmitSound ∧ asked.transmitterSound ∧ step asked = .next cabNode := by
  refine ⟨⟨?_, ?_⟩, ?_, asked_steps⟩
  · simp [State.storeSound, asked, cabNode, State.released, Lau.atRelease, Lau.bounded, Lau.kindsHeld,
      Lau.singles, ofKind]
  · simp [State.scheduleSound, asked, cabNode, State.released, Dcu.atRelease]
  · simp [State.transmitterSound, asked, cabNode, State.released, Lau.atRelease]

theorem witness_ListsSoundKept :
    asked.receiveSound ∧ asked.holdSound ∧ asked.noticesSound ∧ asked.doorTablesSound
      ∧ step asked = .next cabNode := by
  refine ⟨?_, ?_, ?_, ?_, asked_steps⟩
  · simp [State.receiveSound, asked, cabNode, State.released, Rxp.atRelease]
  · simp [State.holdSound, asked, cabNode, State.released, Lhu.atRelease]
  · simp [State.noticesSound, asked, cabNode, State.released, Port.atRelease]
  · simp [State.doorTablesSound, asked, cabNode, State.released, Dcu.atRelease]

theorem witness_ReportsAndTimersSoundKept :
    asked.summariesCurrent ∧ asked.faultReasonsSound ∧ asked.formedTimersSound
      ∧ step asked = .next cabNode := by
  refine ⟨⟨by decide, by decide, by decide⟩, ?_, ⟨?_, fun _ => ⟨rfl, rfl, rfl⟩⟩, asked_steps⟩
  · unfold State.faultReasonsSound
    decide
  · intro h
    exact absurd h (by decide)

theorem witness_HeatSoundKept : asked.heatSound ∧ step asked = .next cabNode := by
  refine ⟨⟨by decide, by decide, by decide, by decide, by decide, by decide, ?_⟩, asked_steps⟩
  intro k hk c hc
  have hk2 : k = 0 ∨ k = 1 := by
    have : k < 2 := hk
    omega
  rcases hk2 with rfl | rfl
  · have : c = Channel.atRelease 0 := by
      apply Option.some.inj
      rw [← hc]
      decide
    subst this
    exact ⟨by decide, by decide, by decide, by decide, by decide⟩
  · have : c = Channel.atRelease 500 := by
      apply Option.some.inj
      rw [← hc]
      decide
    subst this
    exact ⟨by decide, by decide, by decide, by decide, by decide⟩

theorem witness_ConsistSoundKept : asked.consistSound ∧ step asked = .next cabNode := by
  refine ⟨⟨⟨⟨by decide, by decide, by decide, by decide⟩, by decide⟩,
    ⟨by decide, by decide, by decide, by decide⟩, ?_, ?_⟩, asked_steps⟩
  · simp [asked, cabNode, State.released, Cc.atRelease]
  · simp [asked, cabNode, State.released, Cc.atRelease]

theorem witness_SecureExactKept : asked.secureExact ∧ step asked = .next cabNode := by
  refine ⟨⟨?_, by decide⟩, asked_steps⟩
  intro h
  exact absurd h (by decide)

theorem witness_LeavesSoundKept : asked.leavesSound ∧ step asked = .next cabNode := by
  refine ⟨⟨by decide, by decide, by decide, ?_⟩, asked_steps⟩
  intro i hi c hc
  have hi8 : i < 8 := hi
  have hcc : c = Channel.atRelease 0 := by
    apply Option.some.inj
    rw [← hc]
    have hall : ∀ j < 8, asked.otb.channel? j = some (Channel.atRelease 0) := by decide
    exact hall i hi8
  subst hcc
  have hcases : ∀ j < 8, (asked.leaf? j).all (fun l => l.state = .locked) = true := by decide
  have hl := hcases i hi8
  cases hf : asked.leaf? i with
  | none => exact ⟨rfl, rfl⟩
  | some l =>
    rw [hf] at hl
    have hs : l.state = .locked := of_decide_eq_true hl
    simp [leafAgrees, hs, LeafState.runs, Channel.atRelease]

theorem witness_ExternalResetAsserts :
    (∃ s : State, s.inReset = false)
      ∧ (∃ l ∈ (cabNode.released (Straps.latch cabPins)).dlc.leaves, l.state = .locked)
      ∧ (∃ l ∈ (State.reset.released (Straps.latch cabPins)).dlc.leaves, l.state = .fault)
      ∧ (∃ b, (cabNode.endA.send cabNode.id .a 0).sending = some b ∧ b.startedAt ≤ cabNode.now)
      ∧ State.reset.asserted.inReset = true :=
  ⟨⟨State.reset, rfl⟩, by decide, by decide, ⟨_, rfl, by decide⟩, rfl⟩

theorem witness_RawInputsRunFilters :
    cabNode.inReset = false ∧ (∃ l, cabNode.leaf? 0 = some l) ∧ cabNode.leaf? 7 = none :=
  ⟨rfl, ⟨_, rfl⟩, rfl⟩

/-- End A in a state of its own. -/
def withEnd (l : EndLink) : State := cabNode.setEnd .a l

def coupledEnd : EndLink where
  debounced := true
  debounce := none
  state := .coupled
  neighbour := none
  loss := none
  beacon := some 50000
  sending := none
  rx := { quietFrom := 0, phase := .waiting }

theorem witness_ContactCouplesAndBeaconsGoOut :
    (∃ (s : State) (e : CoachEnd) (t : Time), s.inReset = false ∧ (s.endLink e).debounced = false
        ∧ (s.endLink e).debounce = some t)
      ∧ (∃ (s : State) (e : CoachEnd) (t : Time), s.inReset = false ∧ (s.endLink e).state ≠ .openEnd
        ∧ (s.endLink e).beacon = some t)
      ∧ (∃ id own : NodeId, id ≠ 0 ∧ id ≠ own) :=
  ⟨⟨withEnd (EndLink.atRelease true), .a, 200000, by decide⟩, ⟨withEnd coupledEnd, .a, 50000, by decide⟩,
    ⟨1, 2, by decide⟩⟩

/-- Characters sent one after the other from a moment on. -/
def trainFrom : Time → List Byte → List LineChar
  | _, [] => []
  | t, b :: bs => { start := t, data := dataBits b, stop := true } :: trainFrom (t + Config.tECHR) bs

/-- The six bytes of the beacon of a neighbour's end B, and the same with a wrong CRC. -/
def peerBeacon : List Byte := beaconOf 0x2B000333 .b
def badBeacon : List Byte := beaconBody 0x2B000333 0x42 ++ [0x00]

def pairedEnd (id : NodeId) : EndLink :=
  { coupledEnd with state := .paired, neighbour := some { id := id, coachEnd := .b }, loss := some 150000 }

theorem witness_ValidBeaconPairsOrRefreshes :
    beaconTrain (0 + Config.ms 2) (trainFrom 2000 peerBeacon)
      ∧ ((withEnd coupledEnd).endLink .a).rx.quiet ∧ ((withEnd coupledEnd).endLink .a).rx.quietFrom = 0
      ∧ checkBeacon 0x2B000952 (beaconFields ((trainFrom 2000 peerBeacon).map charByte))
          = some { id := 0x2B000333, coachEnd := .b }
      ∧ (withEnd coupledEnd).inReset = false ∧ ((withEnd coupledEnd).endLink .a).state ≠ .openEnd
      ∧ ((withEnd (pairedEnd 0x2B000333)).endLink .a).neighbour = some { id := 0x2B000333, coachEnd := .b }
      ∧ ((withEnd (pairedEnd 5)).endLink .a).neighbour ≠ some { id := 0x2B000333, coachEnd := .b } := by
  unfold beaconTrain EndReceiver.quiet
  decide +kernel

theorem witness_BeaconErrorsOnlyCount :
    (withEnd coupledEnd).inReset = false ∧ ((withEnd coupledEnd).endLink .a).state ≠ .openEnd
      ∧ beaconTrain (0 + Config.ms 2) (trainFrom 2000 badBeacon)
      ∧ ((withEnd coupledEnd).endLink .a).rx.quiet
      ∧ checkBeacon 0x2B000952 (beaconFields ((trainFrom 2000 badBeacon).map charByte)) = none
      ∧ ¬((withEnd { coupledEnd with rx := { quietFrom := 521, phase := .discarding } }).endLink .a).rx.quiet
      ∧ (∀ start ∈ [1999, 2000], ∀ c ∈ (trainFrom start peerBeacon).head?,
          (start = 2000 ↔ coupledEnd.rx.quietFrom + Config.ms 2 ≤ c.start))
      ∧ checkBeacon 0x2B000952 { senderId := 0, senderEnd := 0x43, crc := 0 } = none
      ∧ (cabNode.endLink .a).state = .openEnd := by
  unfold beaconTrain EndReceiver.quiet
  decide +kernel

/-- A beacon cut after three characters counts once, at the end of tEGAP of idle (R1, R6). -/
theorem test_partialBeaconCountsOnce :
    let heardThree := (withEnd coupledEnd).receiveChars .a ((trainFrom 2000 peerBeacon).take 3)
    (heardThree.endLink .a).rx = { quietFrom := 3563, phase := .assembling (peerBeacon.take 3) }
      ∧ heardThree.faultOccasion .a = some 5563
      ∧ (heardThree.endFaulty .a).port.counter 13 = 1
      ∧ ((heardThree.endFaulty .a).endLink .a).rx.phase = .waiting := by decide +kernel

/-- A beacon's six characters pair the end at the end of the sixth (R1, R7). -/
theorem test_beaconTrainPairs :
    (((withEnd coupledEnd).receiveChars .a (trainFrom 2000 peerBeacon)).endLink .a).neighbour
        = some { id := 0x2B000333, coachEnd := .b }
      ∧ ((withEnd coupledEnd).receiveChars .a (trainFrom 2000 peerBeacon)).now = 5126 := by decide +kernel

theorem witness_EndLossesAreReported :
    (∃ t, ((withEnd { coupledEnd with debounce := some 9 }).endLink .a).debounced = true
        ∧ ((withEnd { coupledEnd with debounce := some 9 }).endLink .a).debounce = some t)
      ∧ ((withEnd (pairedEnd 5)).endLink .a).state = .paired
      ∧ ((withEnd (pairedEnd 5)).endLink .a).loss = some 150000 :=
  ⟨⟨9, by decide⟩, by decide, by decide⟩

theorem witness_FormationStartCauses :
    (∃ t, cabNode.inReset = false ∧ cabNode.cc.formState = .start ∧ cabNode.cc.tStart = some t)
      ∧ (opened formedNode).portOpen ∧ (opened formedNode).cc.formState = .formed
      ∧ (opened (inForm .solo)).portOpen ∧ (opened (inForm .solo)).cc.formState = .solo
      ∧ (opened formedNode).port.notices.length < 16 :=
  ⟨⟨500000, rfl, rfl, rfl⟩, ⟨rfl, rfl⟩, rfl, ⟨rfl, rfl⟩, rfl, by decide⟩

theorem witness_GatherEntryStartsAfresh :
    (opened formedNode).portOpen ∧ (opened formedNode).endA.status = .openEnd
      ∧ (opened formedNode).endB.status = .openEnd ∧ (opened (withEnd coupledEnd)).portOpen
      ∧ (opened (withEnd coupledEnd)).endA.status ≠ .openEnd :=
  ⟨⟨rfl, rfl⟩, by decide, by decide, ⟨rfl, rfl⟩, by decide⟩

/-- The reception of a frame that arrives whole. -/
def heard (f : Frame) : Reception := { bytes := f.encode, extraBits := 0 }

theorem witness_NewerNumberIsAdopted :
    receivingNode.inReset = false ∧ receivingNode.pins.peerCarrier = true ∧ receivingNode.rxp.receiving = true
      ∧ checkReception receivingNode.id (heard (peerFrame .reform 1 [0x08]))
          = some (peerFrame .reform 1 [0x08])
      ∧ checkReception receivingNode.id (heard (peerFrame .reform 32767 [0x08]))
          = some (peerFrame .reform 32767 [0x08])
      ∧ ((32767 : FormationNumber) - receivingNode.cc.number).toNat = 32767
      ∧ receivingNode.rxp.queue.length < 16 := by decide +kernel

theorem storeSound_empty (s : State) (h : s.lau = Lau.atRelease) : s.storeSound := by
  simp [State.storeSound, h, Lau.atRelease, Lau.bounded, Lau.kindsHeld, Lau.singles, ofKind]

/-- GATHER or TALLY with its timers running and a candidate order. -/
def timed (f : FormState) : State :=
  cabNode.setCc
    { cabNode.cc with
      formState := f, tStart := none, rollRepeat := some 100000, tGather := some 1000000
      tallyRepeat := some 100000, tTally := some 500000
      candidateOrder := some { members := [plainMember 0x2B000952 .noCab], partialFlag := false, digest := 0 } }

theorem witness_RollAndTallyRepeats :
    (timed .gather).inReset = false ∧ (timed .gather).cc.rollRepeat = some 100000
      ∧ (timed .gather).storeSound ∧ (timed .gather).cc.ordering = none
      ∧ (timed .tally).cc.formState = .tally ∧ (timed .tally).cc.tallyRepeat = some 100000
      ∧ (timed .tally).cc.candidateOrder.isSome = true ∧ (timed .tally).storeSound :=
  ⟨rfl, rfl, storeSound_empty _ rfl, rfl, rfl, rfl, rfl, storeSound_empty _ rfl⟩

theorem witness_GatherTimeoutOrdersFragment :
    (timed .gather).inReset = false ∧ (timed .gather).cc.formState = .gather
      ∧ (timed .gather).cc.tGather = some 1000000 := ⟨rfl, rfl, rfl⟩

/-- A record of a cab with a claim. -/
def cabRecord (id : NodeId) (cab : OwnCab) : RollRecord :=
  { ownRecordOf (Straps.latch cabPins) .openEnd .openEnd cab with id := id }

/-- The chain of this coach alone. -/
def ownChain : List ChainLink :=
  [{ record := ownRecordOf (Straps.latch cabPins) .openEnd .openEnd .noClaim, facing := .a }]

/-- The chain of this coach and a trailer. -/
def twoChain : List ChainLink :=
  ownChain
    ++ [{ record := { ownRecordOf (Straps.latch cabPins) .openEnd .openEnd .noClaim with id := 0x2B000333 }
          facing := .a }]

def ordering (chain : List ChainLink) : State :=
  cabNode.setCc
    { cabNode.cc with
      formState := .gather, tStart := none
      ordering := some { chain := chain, partialFlag := false, endsBy := 4000 } }

/-- A tally of the trailer in the two-coach chain, matching or not. -/
def trailerTally (flag : Bool) : EarlyTally where
  sender := 0x2B000333
  tally := { (computeOrder twoChain false).tally with partialFlag := flag }

theorem witness_OrderingEndEntersTally :
    (∃ x rest, (cabNode.setCc { cabNode.cc with abandoned := [9] }).cc.abandoned = x :: rest)
      ∧ (ordering ownChain).cc.abandoned = [] ∧ (ordering ownChain).cc.earlyTallies = []
      ∧ (computeOrder ownChain false).positionOf (ordering ownChain).id = some 1
      ∧ (computeOrder ownChain false).members.length = 1
      ∧ (computeOrder twoChain false).positionOf (ordering twoChain).id = some 2
      ∧ (computeOrder twoChain false).positionOf (trailerTally false).sender = some 1
      ∧ (computeOrder twoChain false).members.length = 2
      ∧ (trailerTally false).tally = (computeOrder twoChain false).tally
      ∧ (trailerTally true).tally ≠ (computeOrder twoChain false).tally
      ∧ (∀ row ∈ [(OwnCab.noClaim, CabResult.noCab), (.requested, .active), (.active, .active)],
          ((computeOrder [{ record := cabRecord 0x2B000952 row.1, facing := .a }] false).members.map
            Member.cab) = [row.2])
      ∧ (∀ own ∈ [OwnCab.requested, .active],
          ((computeOrder
            [{ record := cabRecord 0x2B000952 own, facing := .a },
             { record := cabRecord 1 .active, facing := .a }] false).members.map Member.cab)
            = [.denied, .active]) :=
  ⟨⟨9, [], rfl⟩, by decide +kernel⟩

/-- Both coaches agree at the end of the computation: the node is FORMED (R31, R36). -/
theorem test_earlyTallyForms :
    (((ordering twoChain).setCc
      { (ordering twoChain).cc with earlyTallies := [trailerTally false] }).endOrdering).cc.formState
      = .formed := by decide +kernel

theorem witness_TallyTimeoutFails :
    (timed .tally).inReset = false ∧ (timed .tally).cc.formState = .tally
      ∧ (timed .tally).cc.tTally = some 500000 ∧ (timed .tally).port.counters.length = 14
      ∧ (timed .tally).cc.failedCount + 1 < 4
      ∧ 4 ≤ ((timed .tally).setCc { (timed .tally).cc with failedCount := 3 }).cc.failedCount + 1 := by
  decide

theorem witness_SilentMemberIsFlagged :
    formedNode.inReset = false ∧ formedNode.cc.formState = .formed ∧ (2 : Nat) ≠ formedNode.ownPosition
      ∧ formedNode.cc.table.entryAt 2 = some (memberEntry 0x2B000333 .noCab) := by decide

theorem witness_CabRequestsAreChecked :
    (opened cabNode).portOpen ∧ (opened cabNode).straps.coachType.isCab = true
      ∧ (opened cabNode).cc.ownCab = .noClaim ∧ (opened formedNode).portOpen
      ∧ (opened formedNode).cc.ownCab ≠ .noClaim ∧ (opened (inForm .solo)).cc.formState = .solo
      ∧ (opened State.reset).portOpen ∧ (opened State.reset).straps.coachType.isCab = false :=
  ⟨⟨rfl, rfl⟩, rfl, rfl, ⟨rfl, rfl⟩, by decide, rfl, ⟨rfl, rfl⟩, rfl⟩

theorem witness_CabArbiterGrantsOne :
    (∀ c ∈ [OwnCab.noClaim, .requested, .active],
      ([cabRecord 3 c, cabRecord 2 .noClaim].map RollRecord.id).Nodup)
      ∧ cabGranted [cabRecord 3 .active, cabRecord 2 .active, cabRecord 1 .requested] = some 2
      ∧ cabGranted [cabRecord 3 .requested, cabRecord 2 .requested] = some 2
      ∧ cabGranted [cabRecord 3 .noClaim] = none := by decide

theorem witness_OrderExampleTurnedCoach :
    (∀ e ∈ [CoachEnd.a, .b], ∃ pre l post,
      ([{ record := cabRecord 2 .noClaim, facing := e }, { record := cabRecord 1 .active, facing := e }] :
          List ChainLink) = pre ++ l :: post
        ∧ (∀ x ∈ pre, x.record.id ≠ l.record.id)
        ∧ cabGranted [cabRecord 2 .noClaim, cabRecord 1 .active] = some l.record.id
        ∧ (e = .a ↔ l.facing = l.record.cabEnd))
      ∧ cabGranted [cabRecord 2 .noClaim, cabRecord 1 .noClaim] = none
      ∧ cabGranted [cabRecord 1 .noClaim] = none := by
  refine ⟨?_, by decide, by decide⟩
  intro e he
  refine ⟨[{ record := cabRecord 2 .noClaim, facing := e }], { record := cabRecord 1 .active, facing := e }, [],
    rfl, by decide +revert, by decide +revert, ?_⟩
  cases e <;> decide

theorem witness_SideMappingFollowsOrientation :
    formedNode.cc.formState = .formed ∧ formedNode.ownOrientation = .a
      ∧ cabNode.cc.formState ≠ .formed
      ∧ (formedNode.setCc
          { formedNode.cc with
            table := { formedNode.cc.table with
              entries := [{ memberEntry 0x2B000952 .noCab with
                member := { plainMember 0x2B000952 .noCab with orientation := .b } }] } }).ownOrientation = .b := by
  decide

/-- The node with one frame waiting in its CONSIST queue. -/
def waiting (f : Frame) : State := formedNode.setLau { formedNode.lau with consist := [f] }

/-- A RELEASE of a number, as a frame. -/
def releaseFrame (n : FormationNumber) : Frame := peerFrame .doorcmd n [1, 1, 3, 1, 1, 1]

/-- A scheduled issue whose copy is that frame. -/
def issueOf (f : Frame) : Issue where
  frame := f
  action := .release
  seq := 1
  ended := 0
  phase := .inStore

def scheduled (s : State) (f : Frame) : State := s.setDcu { s.dcu with schedule := [issueOf f] }

theorem witness_TransmitTakeChecksNumber :
    (waiting (peerFrame .roll 7 [])).takeOccasion = some 64
      ∧ ((waiting (peerFrame .roll 7 [])).advanceTo 64).candidate = some (.consist, peerFrame .roll 7 [])
      ∧ (waiting (peerFrame .roll 6 [])).takeOccasion = some 64
      ∧ ((waiting (peerFrame .roll 6 [])).advanceTo 64).candidate = some (.consist, peerFrame .roll 6 [])
      ∧ (waiting (peerFrame .roll 6 [])).cc.number ≠ 6 := by decide

/-- A RELEASE of an old number dropped at its first attempt voids its issue (R133). -/
theorem test_staleReleaseVoidsIssue :
    (scheduled (formedNode.setLau { formedNode.lau with safety := [releaseFrame 6] })
      (releaseFrame 6)).takeOccasion = some 32
      ∧ ((scheduled (formedNode.setLau { formedNode.lau with safety := [releaseFrame 6] })
        (releaseFrame 6)).takeCandidate).dcu.schedule = []
      ∧ ((scheduled (formedNode.setLau { formedNode.lau with safety := [releaseFrame 6] })
        (releaseFrame 6)).takeCandidate).port.notices = [.issueVoid 1] := by decide +kernel

theorem witness_RetryChecksNumberAgain :
    (scheduled (sendingNode .rewait (currentOf (releaseFrame 7))) (releaseFrame 7)).lau.tx = .rewait
      ∧ (scheduled (sendingNode .rewait (currentOf (releaseFrame 7))) (releaseFrame 7)).carrier = false
      ∧ (scheduled (sendingNode .rewait (currentOf (releaseFrame 6))) (releaseFrame 6)).dcu.schedule
          = [] ++ issueOf (releaseFrame 6) :: []
      ∧ (releaseFrame 6).number ≠ formedNode.cc.number ∧ (releaseFrame 6).isClose = false
      ∧ (releaseFrame 6).kind ≠ .hold ∧ (releaseFrame 7).number = formedNode.cc.number := by decide

theorem witness_GapsBreakthroughAndBackoffRange :
    (∃ s : State, s.inReset = false ∧ s.lhu.holds ≠ [] ∧ s.hsu.lastBidSent = some 5
        ∧ s.now < 5 + Config.ms 2000 ∧ s.lau.supply = [peerFrame .heatbid 7 []] ∧ s.lau.reformSlot = none
        ∧ s.lau.holdSlot = none ∧ s.lau.safety = [] ∧ s.lau.consist = [])
      ∧ 6 ≤ ({ Lau.atRelease with safety := List.replicate 6 (releaseFrame 7) }).storeCount
      ∧ Lau.atRelease.storeCount < 6 :=
  ⟨⟨((formedNode.setLhu { formedNode.lhu with holds := [{ peer := 5, expiresAt := 9 }] }).setHsu
      { formedNode.hsu with lastBidSent := some 5 }).setLau
      { formedNode.lau with supply := [peerFrame .heatbid 7 []] }, by decide⟩, by decide, by decide⟩

theorem witness_CarrierDefersAndReceives :
    cabNode.inReset = false ∧ cabNode.pins.peerCarrier = false ∧ cabNode.lau.driving = false
      ∧ receivingNode.pins.peerCarrier = true
      ∧ (sendingNode (.send 0) (currentOf (releaseFrame 7))).lau.driving = true
      ∧ nextIs (exec .carrierOnset cabNode) receivingNode = true := by decide +kernel

theorem witness_FrameSentGivesResult :
    (∀ f ∈ [releaseFrame 7, peerFrame .heatbid 7 [0, 0, 0, 0], peerFrame .hold 7 (holdPayload 200),
        peerFrame .hold 7 (holdPayload 0), peerFrame .roll 7 []],
      (sendingNode (.send 3) (currentOf f)).lau.tx = .send 3
        ∧ (sendingNode (.send 3) (currentOf f)).lau.current = some (currentOf f)
        ∧ (sendingNode (.send 3) (currentOf f)).port.counters.length = 14)
      ∧ holdOf (holdPayload 200) ≠ 0 ∧ holdOf (holdPayload 0) = 0
      ∧ (scheduled (sendingNode (.send 3) (currentOf (releaseFrame 7))) (releaseFrame 7)).dcu.schedule
          = [] ++ issueOf (releaseFrame 7) :: [] := by decide

theorem witness_CollisionsJamAndBackOff :
    128 ≤ (currentOf (releaseFrame 7)).frame.bitTimes ∧ 129 ≤ (peerFrame .roll 7 (List.replicate 20 0)).bitTimes
      ∧ (∀ n ∈ [1, 11, 12],
        (sendingNode (.jam 3) { currentOf (releaseFrame 7) with collisions := n }).lau.tx = .jam 3
          ∧ (sendingNode (.jam 3) { currentOf (releaseFrame 7) with collisions := n }).port.counters.length = 14)
      ∧ (sendingNode (.jam 3) { currentOf (releaseFrame 7) with late := true }).lau.current
          = some { currentOf (releaseFrame 7) with late := true }
      ∧ (∀ cut ∈ [CutMark.whileSending, .whileJamming],
        (sendingNode (.jam 3) { currentOf (releaseFrame 7) with cut := cut }).lau.current
          = some { currentOf (releaseFrame 7) with cut := cut } ∧ cut ≠ .uncut)
      ∧ (scheduled (sendingNode (.jam 3) { currentOf (releaseFrame 7) with late := true })
          (releaseFrame 7)).dcu.schedule = [] ++ issueOf (releaseFrame 7) :: []
      ∧ (sendingNode (.backoff 9) (currentOf (releaseFrame 7))).lau.tx = .backoff 9 := by decide

theorem witness_LineResetEmptiesLine :
    ∀ tx ∈ [TxState.backoff 9, .rewait, .send 3, .jam 3],
      (opened (sendingNode tx (currentOf (releaseFrame 7)))).portOpen
        ∧ (opened (sendingNode tx (currentOf (releaseFrame 7)))).lau.tx = tx := by
  intro tx _
  exact ⟨⟨rfl, rfl⟩, rfl⟩

/-- The coach FORMED while a frame is being received, with eleven frames in its queue. -/
def formedReceiving : State :=
  (formedNode.setPins { formedNode.pins with peerCarrier := true }).setRxp
    { receiving := true, queue := List.replicate 11 (peerFrame .reform 7 [0x08]) }

theorem witness_ArrivalsAreCheckedAndRouted :
    receivingNode.inReset = false ∧ receivingNode.pins.peerCarrier = true ∧ receivingNode.rxp.receiving = true
      ∧ checkReception receivingNode.id { bytes := [], extraBits := 1 } = none
      ∧ checkReception receivingNode.id (heard (peerFrame .hold 0 (holdPayload 200)))
          = some (peerFrame .hold 0 (holdPayload 200))
      ∧ checkReception receivingNode.id (heard (peerFrame .reform 32768 [0x08]))
          = some (peerFrame .reform 32768 [0x08])
      ∧ isNewer 32768 receivingNode.cc.number = false ∧ (peerFrame .reform 32768 [0x08]).isClose = false
      ∧ (receivingNode.setRxp { receivingNode.rxp with receiving := false }).rxp.receiving = false
      ∧ checkReception receivingNode.id (heard (peerFrame .doorcmd 65535 [1, 2, 3, 1, 1, 1]))
          = some (peerFrame .doorcmd 65535 [1, 2, 3, 1, 1, 1])
      ∧ isNewer 65535 receivingNode.cc.number = false
      ∧ (peerFrame .doorcmd 65535 [1, 2, 3, 1, 1, 1]).isClose = true
      ∧ checkReception formedReceiving.id (heard (peerFrame .reform 7 [0x08]))
          = some (peerFrame .reform 7 [0x08])
      ∧ formedReceiving.rxp.receiving = true ∧ formedReceiving.cc.number = 7
      ∧ formedReceiving.cc.table.positionOf 0x2B000333 = some 2
      ∧ formedReceiving.cc.table.positionOf 5 = none ∧ formedReceiving.cc.table.partialFlag = false
      ∧ formedReceiving.rxp.queue.length = 11 ∧ formedReceiving.lhu.congested = false := by
  decide +kernel

theorem witness_OwnFramesPassTheChecks :
    (peerFrame .hold 7 (holdPayload 200)).payload.length = FrameKind.hold.payloadLength
      ∧ (peerFrame .roll 7 (rollPayload (cabRecord 1 .active))).payload.length = FrameKind.roll.payloadLength
      ∧ (peerFrame .hold 7 []).position.toNat ≤ 32 ∧ (peerFrame .hold 7 []).sender ≠ 0
      ∧ (peerFrame .hold 7 []).sender ≠ 0x2B000952 := by decide

/-- A receive queue with a frame at its head. -/
def queued (f : Frame) (rest : List Frame) : State :=
  formedNode.setRxp { formedNode.rxp with queue := f :: rest }

theorem witness_HeadIsTakenOrDiscarded :
    (queued (peerFrame .roll 7 []) []).consumerBusy .roll = false
      ∧ ((queued (peerFrame .roll 7 []) []).setCc
          { formedNode.cc with abandoned := [9] }).consumerBusy .roll = true
      ∧ (peerFrame .roll 6 []).number ≠ (queued (peerFrame .roll 6 []) []).cc.number
      ∧ (peerFrame .roll 6 []).hasCloseAction = false
      ∧ (peerFrame .doorcmd 6 [1, 2, 3, 1, 1, 1]).hasCloseAction = true
      ∧ (List.replicate 4 (peerFrame .roll 7 [])).length = 4
      ∧ (queued (peerFrame .roll 7 []) []).ccBusy = false := by decide

/-- A CLOSE of another number whose side is no encoding: no CLOSE at its arrival, one at its take, where the DCU
ignores it uncounted; with an action that is no encoding it is stale (R80, R86, R189). -/
theorem test_closeOfNoSideIsIgnored :
    let f := peerFrame .doorcmd 6 [1, 2, 9, 1, 1, 1]
    let g := peerFrame .doorcmd 6 [1, 9, 1, 1, 1, 1]
    f.isClose = false ∧ f.hasCloseAction = true ∧ doorCmdOf f.payload = none ∧ doorCmdOf g.payload = none
      ∧ exec .frameTake (queued f []) = .next (formedNode.setRxp { formedNode.rxp with queue := [] })
      ∧ exec .frameTake (queued g [])
          = .next ((formedNode.setRxp { formedNode.rxp with queue := [] }).count .staleFrames) :=
  ⟨by decide, by decide, by decide, by decide, rfl, rfl⟩

/-- A record that a peer's ROLL carries. -/
def peerRecord : RollRecord := cabRecord 0x2B000333 .noClaim

theorem witness_RollIsTaken :
    rollOf 0x2B000333 (rollPayload peerRecord) = some peerRecord
      ∧ rollOf 0x2B000333 (List.replicate 20 0xFF) = none
      ∧ recordOf formedNode.cc.candidates peerRecord.id = none
      ∧ recordOf [peerRecord] peerRecord.id = some peerRecord
      ∧ recordOf [{ peerRecord with cab := .active }] peerRecord.id = some { peerRecord with cab := .active }
      ∧ (∀ n ∈ [31, 32], recordOf (List.replicate n (cabRecord 9 .noClaim)) peerRecord.id = none)
      ∧ closed [cabRecord 9 .noClaim] false (cabRecord 9 .noClaim) = true
      ∧ closed [cabRecord 9 .noClaim] true (cabRecord 9 .noClaim) = false := by decide +kernel

theorem witness_TallyIsTaken :
    tallyOf (tallyPayload { n := 2, digest := 5, partialFlag := false })
        = some { n := 2, digest := 5, partialFlag := false }
      ∧ tallyOf [0, 0, 0, 0, 0, 0] = none
      ∧ (timed .tally).cc.candidateOrder = some
          { members := [plainMember 0x2B000952 .noCab], partialFlag := false, digest := 0 }
      ∧ (computeOrder twoChain false).positionOf 0x2B000333 = some 1
      ∧ (computeOrder twoChain false).positionOf 5 = none
      ∧ (List.replicate 32 (trailerTally false)).length = 32 := by decide +kernel

theorem witness_ReformTakenHasNoEffect :
    (peerFrame .reform 7 [0x08]).number = formedNode.cc.number ∧ (inForm .gather).cc.formState ≠ .formed
      ∧ (queued (peerFrame .reform 7 [0x08]) []).ccBusy = false
      ∧ isNewer (peerFrame .reform 8 [0x08]).number formedNode.cc.number = true := by decide

/-- A congested node with its own hold running and a peer's hold in the list. -/
def holding : State :=
  cabNode.setLhu
    { congested := true, ownHold := some 200000, resend := some 150000
      holds := [{ peer := 5, expiresAt := 9000 }] }

theorem witness_HoldTimersRunOut :
    holding.inReset = false ∧ holding.lhu.congested = true ∧ holding.lhu.ownHold = some 200000
      ∧ holding.lhu.resend = some 150000
      ∧ (holding.setLhu { holding.lhu with resend := none }).lhu.resend = none
      ∧ holding.lhu.holds.find? (fun x => x.peer = 5) = some { peer := 5, expiresAt := 9000 } := by decide

/-- Four hold list entries, two with the least remaining time. -/
def fourHolds : List HoldEntry :=
  [{ peer := 1, expiresAt := 30 }, { peer := 2, expiresAt := 10 }, { peer := 3, expiresAt := 10 },
   { peer := 4, expiresAt := 20 }]

theorem witness_FullListsMakeRoom :
    (fourHolds.map HoldEntry.peer).Nodup ∧ (5 : NodeId) ∉ fourHolds.map HoldEntry.peer
      ∧ fourHolds = [{ peer := 1, expiresAt := 30 }] ++ { peer := 2, expiresAt := 10 }
          :: [{ peer := 3, expiresAt := 10 }, { peer := 4, expiresAt := 20 }]
      ∧ (holdListAfter fourHolds 5 1000 0).map HoldEntry.peer = [1, 3, 4, 5]
      ∧ (holdListAfter fourHolds 2 0 0).map HoldEntry.peer = [1, 3, 4]
      ∧ fullPolicy .keepOld [releaseFrame 1, peerFrame .roll 1 [], releaseFrame 2] (releaseFrame 3)
          = [releaseFrame 1, releaseFrame 2, releaseFrame 3]
      ∧ fullPolicy .keepOld [releaseFrame 1] (releaseFrame 3) = [releaseFrame 1]
      ∧ 16 ≤ (formedReceiving.setRxp
          { formedReceiving.rxp with
            queue := List.replicate 16 (peerFrame .roll 7 []) }).rxp.queue.length := by decide

/-! ### Leaves and channels -/

/-- Leaf 0 in a state with its channel in a run. -/
def running (f : Leaf → Leaf) (out : Bool) : State :=
  withChannel (withLeaf f) 0 (fun c => { c.startRun 0 3000 11000 with output := out })

/-- Leaf 0 of the coach as it stands. -/
def leafZero : Leaf := Leaf.atRelease 0 true false

theorem witness_LeafRunMatches :
    (∀ st ∈ [LeafState.closingWarn, .reopen], ∀ ob ∈ [false, true], ∀ n ∈ [0, 1, 2],
      (running (fun l => { l with state := st, ob := ob, obstructions := n }) false).leaf? 0
          = some { leafZero with state := st, ob := ob, obstructions := n }
        ∧ (running (fun l => { l with state := st, ob := ob, obstructions := n }) false).otb.channel? 0
          = some ((Channel.atRelease 0).startRun 0 3000 11000))
      ∧ (running (fun l => { l with state := .closingDrive }) true).otb.channel? 0
          = some { (Channel.atRelease 0).startRun 0 3000 11000 with output := true }
      ∧ (running (fun l => l) false).port.counters.length = 14
      ∧ (running (fun l => l) false).port.notices.length < 15
      ∧ ((Channel.atRelease 0).startRun 0 0 5).output = true
      ∧ ((Channel.atRelease 0).startRun 0 1 5).output = false
      ∧ ((Channel.atRelease 0).startRun 0 0 0).output = false := by decide

/-- Heater channel 8 in PWM with a duty and an offset that wait. -/
def pwmChannel : Channel where
  mode := .pwm
  base := 0
  since := 0
  compareA := 800
  compareB := 2000
  pendingA := some 1000
  output := true
  offset := 0
  pendingOffset := some 500

theorem witness_HeaterPeriodsRunOn :
    (withChannel cabNode 8 (fun _ => pwmChannel)).otb.channel? 8 = some pwmChannel
      ∧ pwmChannel.compareA < pwmChannel.compareB
      ∧ (withChannel cabNode 8 (fun _ => { pwmChannel with output := false })).otb.channel? 8
          = some { pwmChannel with output := false }
      ∧ (withChannel cabNode 8 (fun _ =>
          { pwmChannel with output := false, pendingOffset := none })).otb.channel? 8
          = some { pwmChannel with output := false, pendingOffset := none } := by decide

/-- The coach with a demand of the whole frost power of channel 0 and a grant. -/
def granted (kw : Nat) : State :=
  cabNode.setHsu
    { cabNode.hsu with
      demands := [{ frost := 100, comfort := 0 }, { frost := 0, comfort := 0 }]
      applied := { frost := kw, comfort := 0 } }

theorem witness_DutyWritesAndStagger :
    pwmChannel.mode = .pwm ∧ 2 * min 400 1000 ≤ pwmChannel.compareA ∧ pwmChannel.compareA < 2 * min 401 1000
      ∧ (Channel.atRelease 0).mode = .off ∧ cabNode.otb.channel? (8 + 1) = some (Channel.atRelease 500)
      ∧ ((1 - 1) * 2000 / 32 + 1 * 500) % 2000 = (Channel.atRelease 500).offset
      ∧ ((32 - 1) * 2000 / 32 + 1 * 500) % 2000 ≠ (Channel.atRelease 500).offset
      ∧ ¬(1 ≤ 33 ∧ 33 ≤ 32 ∧ 32 ≤ 32)
      ∧ cabNode.hsu.targets[(1 : Nat)]? = some 0 ∧ cabNode.duties[(1 : Nat)]? = some 0
      ∧ (granted 8).hsu.targets[(0 : Nat)]? = some 0 ∧ (granted 8).duties[(0 : Nat)]? = some 1000
      ∧ ((granted 0).setHsu { (granted 0).hsu with targets := [500, 0] }).hsu.targets[(0 : Nat)]? = some 500
      ∧ (granted 0).duties[(0 : Nat)]? = some 0 := by decide

theorem witness_LeafInputsAndWatchesAct :
    (∀ st ∈ [LeafState.locked, .closingDrive, .fault],
      (withLeaf (fun l => { l with state := st, watch := some 5, clFilter := some 7, obFilter := some 7 })).leaf? 0
        = some { leafZero with state := st, watch := some 5, clFilter := some 7, obFilter := some 7 })
      ∧ leafZero.ob = false ∧ leafZero.obstructions + 1 < 3
      ∧ 3 ≤ ({ leafZero with obstructions := 2 }).obstructions + 1 ∧ cabNode.inReset = false
      ∧ cabNode.port.counters.length = 14 := by decide

theorem witness_IsolationTakesLeafOut :
    (opened cabNode).portOpen ∧ (opened cabNode).leaf? (0 : Byte).toNat = some leafZero
      ∧ (opened cabNode).leaf? (7 : Byte).toNat = none
      ∧ (opened (withLeaf (fun l => { l with state := .isolated }))).leaf? 0
          = some { leafZero with state := .isolated }
      ∧ (opened (withLeaf (fun l => { l with state := .isolated, cl := false }))).leaf? 0
          = some { leafZero with state := .isolated, cl := false } :=
  ⟨⟨rfl, rfl⟩, by decide⟩

theorem witness_LeafCommandsAct :
    formedNode.cc.formState = .formed ∧ formedNode.cc.number = 7 ∧ formedNode.leaf? 0 = some leafZero
      ∧ [Side.one].contains (leafSide 0) = true ∧ [Side.one].contains (leafSide 4) = false
      ∧ cabNode.cc.formState ≠ .formed
      ∧ (withLeaf (fun l => { l with state := .released })).leaf? 0
          = some { leafZero with state := .released } := by decide

/-- The coach FORMED with the neighbour in the cab role. -/
def otherCab : State :=
  formedNode.setCc
    { formedNode.cc with
      ownCab := .noClaim
      table :=
        { formedNode.cc.table with
          entries := [memberEntry 0x2B000952 .noCab, memberEntry 0x2B000333 .active] } }

/-- A DOORCMD of a peer: the payload's command, and its range at and outside the own position. -/
def commandOf (action : DoorAction) (lo : Nat) : DoorCmd where
  seq := 1
  action := action
  side := .both
  rangeFrom := lo
  rangeTo := 2
  issuer := 2

theorem witness_DoorcmdIsTaken :
    (∀ a ∈ [DoorAction.release, .close], ∀ lo ∈ [1, 2],
      doorCmdOf (doorCmdPayload (commandOf a lo)) = some (commandOf a lo))
      ∧ doorCmdOf [1, 1, 0, 1, 1, 1] = none ∧ formedNode.ownPosition = 1
      ∧ formedNode.cc.table.activeCab ≠ some 0x2B000333
      ∧ (otherCab.cc.table.activeCab = some 0x2B000333 ∧ otherCab.cc.formState = .formed)
      ∧ (dedupLookup [] 5 1 0).1 = false
      ∧ (dedupLookup [{ issuer := 5, seqs := [9, 1], lastUse := 0 }] 5 1 0).1 = true
      ∧ (dedupLookup [{ issuer := 5, seqs := [6, 7, 8, 9], lastUse := 0 }] 5 1 3).2
          = [{ issuer := 5, seqs := [7, 8, 9, 1], lastUse := 3 }]
      ∧ ((dedupLookup ([1, 2, 3, 4].map fun n => { issuer := n, seqs := [1], lastUse := 0 }) 5 1 3).2.map
          DedupEntry.issuer) = [2, 3, 4, 5] := by decide

/-- The take of a RELEASE from the active cab opens the leaves of a coach in its range (R135), as the statement
that nothing else does assumes. -/
theorem witness_ReleasedOnlyByAcceptedRelease :
    let s : State :=
      { otherCab with
        pending := [.frameTake]
        rxp := { otherCab.rxp with
          queue := [peerFrame .doorcmd 7 (doorCmdPayload (commandOf .release 1))] } }
    s.leaf? 0 = some leafZero ∧ leafZero.state ≠ .released
      ∧ (match step s with
        | .next t => (t.leaf? 0).map Leaf.state
        | .fault _ | .refused _ => none) = some .released := by decide +kernel

theorem witness_OutputPinsFollowState :
    cabNode.inReset = false ∧ cabNode.leaf? 0 = some leafZero ∧ cabNode.leaf? 7 = none
      ∧ cabNode.straps.outPol = .activeLow ∧ State.reset.straps.outPol = .activeHigh
      ∧ cabNode.port.notices = [] ∧ cabNode.asserted.inReset = true
      ∧ cabNode.relPin 0 = .high ∧ State.reset.noticeLine = .high := by decide

/-! ### Door commands -/

theorem witness_DoorIssueIsChecked :
    (opened cabNode).portOpen ∧ (opened State.reset).portOpen
      ∧ (opened State.reset).straps.coachType.isCab = false ∧ (opened cabNode).cc.formState ≠ .formed
      ∧ (opened formedNode).portOpen ∧ (opened formedNode).cc.ownCab = .active
      ∧ (opened (formedNode.setCc { formedNode.cc with ownCab := .noClaim })).cc.ownCab ≠ .active
      ∧ (opened formedNode).cc.table.size = 2
      ∧ 6 ≤ (opened (formedNode.setLau
          { formedNode.lau with safety := List.replicate 6 (releaseFrame 7) })).lau.safety.length
      ∧ 4 ≤ (opened (formedNode.setDcu
          { formedNode.dcu with
            schedule := List.replicate 4 (issueOf (releaseFrame 7)) })).dcu.schedule.length :=
  ⟨⟨rfl, rfl⟩, ⟨rfl, rfl⟩, rfl, by decide, ⟨rfl, rfl⟩, rfl, by decide, rfl, by decide,
    by decide⟩

theorem witness_DoorIssueIsSentAndApplied :
    (opened formedNode).portOpen ∧ (opened formedNode).straps.coachType.isCab = true
      ∧ (opened formedNode).dcu.schedule.length < 4 ∧ (opened formedNode).lau.safety.length < 6
      ∧ (opened formedNode).cc.formState = .formed ∧ (opened formedNode).cc.ownCab = .active
      ∧ (2 : Byte).toNat ≤ (opened formedNode).cc.table.size ∧ (opened formedNode).ownPosition = 1
      ∧ (opened cabNode).portOpen ∧ (opened cabNode).cc.formState ≠ .formed :=
  ⟨⟨rfl, rfl⟩, rfl, by decide, by decide, rfl, rfl, by decide, by decide, ⟨rfl, rfl⟩, by decide⟩

/-- A RELEASE in the range opens the leaves of both sides, and the answer carries its number. -/
theorem test_releaseOpensLeaves :
    exec (.doorIssueRelease 1 3 1 2) (opened formedNode) =
        .next ((opened formedNode).takeRequest fun s => s.doorIssue 1 3 1 2)
      ∧ ((opened formedNode).doorIssue 1 3 1 2).2 = [0x00, 0x01]
      ∧ ((opened formedNode).doorIssue 1 3 1 2).1.dlc.leaves.map Leaf.state
          = List.replicate 4 LeafState.released :=
  ⟨rfl, by decide +kernel⟩

/-- A formed state with a spacing issue, a DOORSTAT timer and a fresh status of position 2. -/
def doorsRunning : State :=
  formedNode.setDcu
    { formedNode.dcu with
      schedule := [{ issueOf (releaseFrame 7) with phase := .spacing 20000 }]
      doorstatTimer := some 250000
      doorStatus := [{ position := 2, left := true, right := true, receivedAt := 0, fresh := true }] }

theorem witness_CopiesAndDoorStatusRunOn :
    doorsRunning.inReset = false
      ∧ doorsRunning.dcu.schedule
          = [] ++ { issueOf (releaseFrame 7) with phase := .spacing 20000 } :: []
      ∧ doorsRunning.lau.safety.length < 6
      ∧ 6 ≤ (doorsRunning.setLau
          { doorsRunning.lau with safety := List.replicate 6 (releaseFrame 7) }).lau.safety.length
      ∧ doorsRunning.cc.formState = .formed ∧ doorsRunning.dcu.doorstatTimer = some 250000
      ∧ doorsRunning.trainLeft = some .one
      ∧ (doorsRunning.dcu.doorStatus.find? (fun x => x.position = 2 && x.fresh)).isSome = true
      ∧ (2 : Nat) ≠ doorsRunning.ownPosition ∧ 2 ≤ doorsRunning.cc.table.size
      ∧ doorsRunning.dcu.doorstatOwed = none
      ∧ (doorsRunning.setNow 250000).submitDoorstat.dcu.doorstatOwed = some 250000
      ∧ (doorsRunning.setNow 249999).submitDoorstat.dcu.doorstatOwed = none
      ∧ doorstatOf (doorstatPayload 2 true false) = some (2, true, false)
      ∧ doorsRunning.cc.table.positionOf 0x2B000333 = some 2
      ∧ doorstatOf [2, 2, 0] = none := by decide

/-! ### Heating -/

/-- The coach with a demand on channel 0. -/
def heated (s : State) : State :=
  s.setHsu { s.hsu with demands := [{ frost := 50, comfort := 50 }, { frost := 0, comfort := 0 }] }

theorem witness_HeatRequestsAreChecked :
    (opened (heated cabNode)).portOpen ∧ (opened (heated cabNode)).straps.heatCh = 2
      ∧ (opened (heated cabNode)).hsu.demands[(0 : Byte).toNat]? = some { frost := 50, comfort := 50 }
      ∧ (opened (heated cabNode)).hsu.source = .limit
      ∧ (opened (heated formedNode)).cc.formState = .formed
      ∧ (opened (heated cabNode)).straps.coachType.isSupply = true
      ∧ (opened State.reset).straps.coachType.isSupply = false
      ∧ (1000 : BitVec 16).toNat ≤ 1000 ∧ 1000 < (1001 : BitVec 16).toNat
      ∧ (opened (heated cabNode)).hsu.offer = 0 ∧ (opened (heated formedNode)).storeSound :=
  ⟨⟨rfl, rfl⟩, rfl, by decide, rfl, rfl, by decide, by decide, by decide, by decide, rfl,
    storeSound_empty _ rfl⟩

/-- A bid of position 2, received at release. -/
def bidTwo : Bid where
  position := 2
  frost := 1
  comfort := 1
  offer := 0
  receivedAt := 0
  fresh := true

/-- A computation in progress. -/
def oneAllocation (after abandoned : Bool) : Allocation where
  inputs := [{ frost := 4, comfort := 4, offer := 100 }]
  ownPosition := 1
  afterSettle := after
  abandoned := abandoned
  endsBy := 2000

/-- A formed state with its heating timers running. -/
def heatRunning : State :=
  (heated formedNode).setHsu
    { (heated formedNode).hsu with
      bidTimer := some 1000000, settle := some 2000000, holdOver := some 10000000, bids := [bidTwo]
      frozen := { frost := 2, comfort := 2 } }

theorem witness_HeatTimersRunOut :
    heatRunning.inReset = false ∧ heatRunning.cc.formState = .formed
      ∧ heatRunning.hsu.bidTimer = some 1000000 ∧ heatRunning.hsu.freshBid 2 = some bidTwo
      ∧ heatRunning.hsu.settle = some 2000000 ∧ heatRunning.hsu.alloc = none
      ∧ heatRunning.hsu.holdOver = some 10000000 ∧ heatRunning.port.notices.length < 16
      ∧ ({ frost := min 2 heatRunning.frostOwn, comfort := 0 } : Grant) ≠ heatRunning.hsu.applied
      ∧ heatRunning.hsu.bidOwed = none
      ∧ (heatRunning.setNow 1000000).submitHeatbid.hsu.bidOwed = some 1000000
      ∧ heatRunning.cc.table.positionOf 0x2B000333 = some 2
      ∧ heatRunning.cc.table.entryAt 2 = some (memberEntry 0x2B000333 .noCab)
      ∧ (2 : Nat) ≠ heatRunning.ownPosition ∧ heatRunning.hsuBusy = false
      ∧ heatRunning.allBidsFresh = true
      ∧ (heatRunning.setHsu { heatRunning.hsu with bids := [] }).allBidsFresh = false := by
  decide

theorem witness_AllocationEndSetsGrant :
    (∀ after ∈ [true, false], ∀ abandoned ∈ [true, false], ∀ rerun ∈ [true, false],
      (heatRunning.setHsu
        { heatRunning.hsu with
          alloc := some (oneAllocation after abandoned), rerunPending := rerun }).hsu.alloc
        = some (oneAllocation after abandoned))
      ∧ (allocate (oneAllocation true false).inputs).getD 0 { frost := 0, comfort := 0 }
          = { frost := 4, comfort := 4 } := by decide

/-! ### Local port -/

theorem witness_ReadRequestsAnswerRecords :
    (opened cabNode).portOpen ∧ (opened cabNode).trainLeft = none ∧ (opened formedNode).trainLeft = some .one
      ∧ (opened cabNode).port.notices = []
      ∧ ((opened cabNode).post .soloEntered).port.notices = [.soloEntered]
      ∧ ((opened cabNode).setPort
          { (opened cabNode).port with
            notices := List.replicate 16 .soloEntered, lostMarker := true }).port.lostMarker = true
      ∧ ((opened cabNode).cc.table.entries[0]?).isSome = true
      ∧ (sideSummary (opened cabNode).dlc.leaves .one).faults ≤ 4
      ∧ (32 : Byte).toNat ≤ 32 ∧ (8 : Byte).toNat ≤ 8 ∧ ¬((33 : Byte).toNat ≤ 32) :=
  ⟨⟨rfl, rfl⟩, by decide⟩

theorem witness_CounterReadAnswersValue :
    (opened cabNode).portOpen ∧ (13 : Byte).toNat ≤ 13 ∧ 13 < (14 : Byte).toNat :=
  ⟨⟨rfl, rfl⟩, by decide⟩

theorem witness_CountersCountAndDecrement :
    (opened cabNode).portOpen ∧ (opened cabNode).port.counters.length = 14
      ∧ (opened cabNode).port.counter 12 ≠ 32767
      ∧ (cabNode.setPort { cabNode.port with counters := List.replicate 14 32767 }).port.counter 12 = 32767
      ∧ 16 ≤ (cabNode.setPort
          { cabNode.port with
            counters := List.replicate 14 32767
            notices := List.replicate 16 .soloEntered }).port.notices.length :=
  ⟨⟨rfl, rfl⟩, by decide⟩

theorem witness_TransactionsTakeOneRequest :
    cabNode.inReset = false ∧ cabNode.pins.csLow = false
      ∧ (cabNode.setPins { cabNode.pins with csLow := true }).pins.csLow = true ∧ (opened cabNode).portOpen
      ∧ cabNode.port.phase = .idle ∧ isPortRequest .status = true
      ∧ ((opened cabNode).answered [0x00]).port.phase = .response
      ∧ ((opened cabNode).answered [0x00]).port.ready = false
      ∧ requestBytes (.counterDecrement 12 0x0102) = [0x0B, 12, 0x01, 0x02]
      ∧ ([0x0B, 12, 0x01].foldl Port.clock (opened cabNode).port).phase = .args [0x0B, 12, 0x01]
      ∧ begins [0x0B, 12, 0x01] (requestBytes (.counterDecrement 12 0x0102)) = true
      ∧ begins [0x0B, 12, 0x01] (requestBytes (.counterDecrement 12 0x0202)) = false
      ∧ begins [0x0B] (requestBytes .status) = false
      ∧ ((opened cabNode).setPort { (opened cabNode).port with phase := .args [0x0B, 12, 0x01] }).inReset = false :=
  ⟨rfl, rfl, rfl, ⟨rfl, rfl⟩, rfl, rfl, rfl, rfl, by decide, by decide, by decide, by decide, by decide, rfl⟩

end Sys2Proof.Tests
end

section
/-! SUPPORT. The dispatcher's arms of this part, what a formation start comes to, and the report of an adjacency
change (R10, R19, R20). -/

namespace Sys2Proof.Machine

/-! ### The dispatcher, for the commands of this part -/

theorem exec_externalResetAssert (s : State) : exec .externalResetAssert s = execExternalResetAssert s := rfl

theorem exec_externalResetRelease (p : StrapPins) (s : State) :
    exec (.externalResetRelease p) s = execExternalResetRelease p s := rfl

theorem exec_rawContactChange (e : CoachEnd) (level : Bool) (s : State) :
    exec (.rawContactChange e level) s = execRawContactChange e level s := rfl

theorem exec_debouncedContactActive (e : CoachEnd) (s : State) :
    exec (.debouncedContactActive e) s = execDebouncedContactActive e s := rfl

theorem exec_debouncedContactLost (e : CoachEnd) (s : State) :
    exec (.debouncedContactLost e) s = execDebouncedContactLost e s := rfl

theorem exec_endBeaconSend (e : CoachEnd) (s : State) : exec (.endBeaconSend e) s = execEndBeaconSend e s := rfl

theorem exec_endBeaconArrival (e : CoachEnd) (chars : List LineChar) (s : State) :
    exec (.endBeaconArrival e chars) s = execEndBeaconArrival e chars s := rfl

theorem exec_faultyReception (e : CoachEnd) (s : State) :
    exec (.faultyReception e) s = execFaultyReception e s := rfl

theorem exec_beaconLoss (e : CoachEnd) (s : State) : exec (.beaconLoss e) s = execBeaconLoss e s := rfl

theorem exec_lineReset (s : State) : exec .lineReset s = execLineReset s := rfl

theorem exec_rawLeafInputChange (i : Nat) (input : LeafInput) (level : Bool) (s : State) :
    exec (.rawLeafInputChange i input level) s = execRawLeafInputChange i input level s := rfl

theorem exec_carrierOnset (s : State) : exec .carrierOnset s = execCarrierOnset s := rfl

theorem exec_frameArrival (r : Reception) (s : State) : exec (.frameArrival r) s = execFrameArrival r s := rfl

/-! ### A started formation (R19) -/

@[simp] theorem Cc.abandonOrdering_number (c : Cc) : c.abandonOrdering.number = c.number := by
  unfold Cc.abandonOrdering
  split <;> rfl

@[simp] theorem Cc.clearForGather_number (c : Cc) (now : Time) : (c.clearForGather now).number = c.number := rfl

@[simp] theorem Cc.clearForGather_formState (c : Cc) (now : Time) :
    (c.clearForGather now).formState = .gather := rfl

@[simp] theorem State.takeNumber_number (s : State) (n : FormationNumber) : (s.takeNumber n).cc.number = n := rfl

@[simp] theorem State.takeNumber_id (s : State) (n : FormationNumber) : (s.takeNumber n).id = s.id := rfl

@[simp] theorem State.leaveForGather_number (s : State) (r : LeftReason) :
    (s.leaveForGather r).cc.number = s.cc.number := by
  unfold State.leaveForGather
  split <;> rfl

@[simp] theorem State.submitRoll_reformSlot (s : State) : s.submitRoll.lau.reformSlot = s.lau.reformSlot := rfl

@[simp] theorem State.submitReform_reformSlot (s : State) (r : ReformReason) :
    (s.submitReform r).lau.reformSlot = some (s.buildFrame .reform [reasonCode r]) := rfl

@[simp] theorem State.testClosure_number (s : State) : s.testClosure.cc.number = s.cc.number := by
  unfold State.testClosure
  split <;> rfl

@[simp] theorem State.testClosure_formState (s : State) : s.testClosure.cc.formState = s.cc.formState := by
  unfold State.testClosure
  split <;> rfl

@[simp] theorem State.insertOwnRecord_number (s : State) : s.insertOwnRecord.cc.number = s.cc.number := rfl

@[simp] theorem State.insertOwnRecord_formState (s : State) :
    s.insertOwnRecord.cc.formState = s.cc.formState := rfl

/-- GATHER entry keeps the number (R24). -/
@[simp] theorem State.enterGather_number (s : State) : s.enterGather.cc.number = s.cc.number := by
  simp [State.enterGather]

@[simp] theorem State.enterGather_formState (s : State) : s.enterGather.cc.formState = .gather := by
  simp [State.enterGather]

/-- The ROLL of GATHER entry leaves the REFORM that was submitted before it (R19, R59). -/
@[simp] theorem State.enterGather_reformSlot (s : State) :
    s.enterGather.lau.reformSlot = s.lau.reformSlot := by
  simp [State.enterGather]

/-- What starting a formation comes to: the next number, a REFORM with the reason, and GATHER (R19). -/
theorem State.startFormation_started (s : State) (r : ReformReason) :
    startedFormation s (s.startFormation r) r := by
  unfold State.startFormation
  exact ⟨by simp, by simp, by simp [State.buildFrame, State.headerPosition]⟩

/-- States that agree in both end link fields agree at each end. -/
theorem State.endLink_congr {s t : State} (ha : t.endA = s.endA) (hb : t.endB = s.endB) (e : CoachEnd) :
    t.endLink e = s.endLink e := by
  cases e
  · exact ha
  · exact hb

@[simp] theorem State.startFormation_endLink (s : State) (r : ReformReason) (e : CoachEnd) :
    (s.startFormation r).endLink e = s.endLink e :=
  State.endLink_congr (by simp) (by simp) e

/-! ### The report of an adjacency change (R10, R20) -/

theorem State.reportAdjacency_start (s : State) (h : s.cc.formState = .start) : s.reportAdjacency = s := by
  simp [State.reportAdjacency, h]

theorem State.reportAdjacency_running (s : State) (h : s.cc.formState ≠ .start) :
    s.reportAdjacency = s.startFormation .coupling := by
  unfold State.reportAdjacency
  split
  case h_1 hs => exact absurd hs h
  all_goals rfl

@[simp] theorem State.reportAdjacency_endLink (s : State) (e : CoachEnd) :
    s.reportAdjacency.endLink e = s.endLink e := by
  by_cases h : s.cc.formState = .start
  · rw [s.reportAdjacency_start h]
  · rw [s.reportAdjacency_running h, State.startFormation_endLink]

@[simp] theorem State.reportAdjacency_now (s : State) : s.reportAdjacency.now = s.now := by
  by_cases h : s.cc.formState = .start
  · rw [s.reportAdjacency_start h]
  · rw [s.reportAdjacency_running h, State.startFormation_now]

/-- A report is one for every earlier state that differs in the end links and the time alone. -/
theorem State.reportAdjacency_reported (s t : State) (hcc : t.cc = s.cc) (hlau : t.lau = s.lau)
    (hid : t.id = s.id) : reportedAdjacency s t.reportAdjacency := by
  unfold reportedAdjacency
  by_cases h : s.cc.formState = .start
  · rw [if_pos h, t.reportAdjacency_start (hcc ▸ h)]
    exact ⟨hcc, hlau⟩
  · rw [if_neg h, t.reportAdjacency_running (hcc ▸ h)]
    have started := t.startFormation_started .coupling
    unfold startedFormation at started ⊢
    rwa [hcc, hid] at started

/-- The report of a change that an end link has made at a moment. -/
theorem State.setEnd_reportAdjacency (s t : State) (e : CoachEnd) (l : EndLink)
    (hends : t.endLink e.other = s.endLink e.other) (hcc : t.cc = s.cc) (hlau : t.lau = s.lau) (hid : t.id = s.id) :
    let u := (t.setEnd e l).reportAdjacency
    u.endLink e = l ∧ u.endLink e.other = s.endLink e.other ∧ reportedAdjacency s u := by
  refine ⟨by simp, by simp [hends], ?_⟩
  exact State.reportAdjacency_reported s _ (by simp [hcc]) (by simp [hlau]) (by simp [hid])

end Sys2Proof.Machine
end

section
/-! The settled statements about lost contacts, lost beacons and valid beacons (R3, R6 to R10, R20). -/

namespace Sys2Proof.Machine

/-! ### The contact and the beacons are lost (R3, R9) -/

/-- Settles O18: each loss is an `onOccasion` whose act writes the end link and reports the change. -/
theorem endLossesAreReported : Obligations.EndLossesAreReported := by
  refine ⟨?contactLost, ?beaconsLost⟩
  case contactLost =>
    intro s e t hr hd ht
    have occasion : s.debounceOccasion e false = some t := by simp [State.debounceOccasion, hd, ht]
    rw [exec_debouncedContactLost, execDebouncedContactLost, occasion, State.onOccasion_some _ _ _ hr]
    refine ⟨_, rfl, ?_⟩
    simp only [State.reportAdjacency_endLink, State.setEnd_endLink_same, State.setEnd_endLink_other,
      State.advanceTo_endLink, true_and]
    exact State.reportAdjacency_reported s _ (by simp) (by simp) (by simp)
  case beaconsLost =>
    intro s e t hr hp hl
    have occasion : s.lossOccasion e = some t := by simp [State.lossOccasion, hp, hl]
    rw [exec_beaconLoss, execBeaconLoss, occasion, State.onOccasion_some _ _ _ hr, State.advanceTo_endLink]
    exact ⟨_, rfl, State.setEnd_reportAdjacency s (s.advanceTo t) e _ (by simp) rfl rfl rfl⟩

/-! ### A beacon arrives (R6 to R8) -/

theorem State.takeBeacon_refresh (s : State) (e : CoachEnd) (n : Neighbour)
    (h : (s.endLink e).state = .paired ∧ (s.endLink e).neighbour = some n) :
    s.takeBeacon e n = s.setEnd e ((s.endLink e).pair n s.now) := by
  simp [State.takeBeacon, h]

theorem State.takeBeacon_change (s : State) (e : CoachEnd) (n : Neighbour)
    (h : ¬((s.endLink e).state = .paired ∧ (s.endLink e).neighbour = some n)) :
    s.takeBeacon e n = (s.setEnd e ((s.endLink e).pair n s.now)).reportAdjacency := by
  simp [State.takeBeacon, h]

@[simp] theorem State.hearing_id (s : State) (e : CoachEnd) (now : Time) (r : EndReceiver) :
    (s.hearing e now r).id = s.id := by
  simp [State.hearing]

@[simp] theorem State.hearing_now (s : State) (e : CoachEnd) (now : Time) (r : EndReceiver) :
    (s.hearing e now r).now = now := by
  simp [State.hearing]

@[simp] theorem State.hearing_endLink_same (s : State) (e : CoachEnd) (now : Time) (r : EndReceiver) :
    (s.hearing e now r).endLink e = { s.endLink e with rx := r } := by
  simp [State.hearing]

@[simp] theorem State.hearing_endLink_other (s : State) (e : CoachEnd) (now : Time) (r : EndReceiver) :
    (s.hearing e now r).endLink e.other = s.endLink e.other := by
  simp [State.hearing]

/-- A later write of the end link takes the place of what the end hears. -/
theorem State.hearing_setEnd (s : State) (e : CoachEnd) (now : Time) (r : EndReceiver) (l : EndLink) :
    (s.hearing e now r).setEnd e l = (s.setNow now).setEnd e l := by
  cases e <;> rfl

/-- END_BEACON_ARRIVAL with the characters of one beacon is the arrival of their bytes (R1, R6). -/
theorem exec_endBeaconArrival_train (s : State) (e : CoachEnd) (chars : List LineChar) (hr : s.inReset = false)
    (hs : (s.endLink e).state ≠ .openEnd) (hq : (s.endLink e).rx.quiet)
    (ht : beaconTrain ((s.endLink e).rx.quietFrom + Config.tEGAP) chars) :
    exec (.endBeaconArrival e chars) s = .next
      ((s.hearing e (max s.now (trainEnd chars))
        { quietFrom := trainEnd chars, phase := .afterBeacon }).arriveBeacon e (chars.map charByte)) := by
  rw [exec_endBeaconArrival, execEndBeaconArrival, State.inService_running _ _ hr,
    s.receiveChars_train e chars hs hq ht]

/-- Settles O16: the beacon of six characters is taken, as a refresh or as a change that is reported. -/
theorem validBeaconPairsOrRefreshes : Obligations.ValidBeaconPairsOrRefreshes := by
  intro s e chars n hr hs hq ht hn at_ paired
  rw [exec_endBeaconArrival_train s e chars hr hs hq ht]
  refine ⟨_, rfl, ?_⟩
  generalize hh : s.hearing e (max s.now (trainEnd chars))
    { quietFrom := trainEnd chars, phase := .afterBeacon } = h
  have hend : h.endLink e = { s.endLink e with rx := { quietFrom := trainEnd chars, phase := .afterBeacon } } := by
    rw [← hh, State.hearing_endLink_same]
  have hother : h.endLink e.other = s.endLink e.other := by rw [← hh, State.hearing_endLink_other]
  have hnow : h.now = at_ := by rw [← hh, State.hearing_now]
  have hid : h.id = s.id := by rw [← hh, State.hearing_id]
  have arrive : h.arriveBeacon e (chars.map charByte) = h.takeBeacon e n := by
    rw [State.arriveBeacon, hid, hn]
  have hpair : (h.endLink e).pair n h.now = paired := by rw [hend, hnow]; rfl
  have same : ((h.endLink e).state = .paired ∧ (h.endLink e).neighbour = some n)
      ↔ ((s.endLink e).state = .paired ∧ (s.endLink e).neighbour = some n) := by rw [hend]
  rw [arrive]
  by_cases hp : (s.endLink e).state = .paired ∧ (s.endLink e).neighbour = some n
  · rw [h.takeBeacon_refresh e n (same.mpr hp), hpair, ← hh, State.hearing_setEnd]
    exact ⟨State.setEnd_now _ _ _, State.setEnd_endLink_same _ _ _,
      (State.setEnd_endLink_other _ _ _).trans (State.setNow_endLink _ _ _), fun _ _ => rfl,
      fun hnp => absurd hp hnp⟩
  · rw [h.takeBeacon_change e n (mt same.mp hp), hpair]
    have hcc : h.cc = s.cc := by rw [← hh, State.hearing, State.setEnd_cc, State.setNow_cc]
    have hlau : h.lau = s.lau := by rw [← hh, State.hearing, State.setEnd_lau, State.setNow_lau]
    obtain ⟨hpaired, huntouched, hreport⟩ := State.setEnd_reportAdjacency s h e paired hother hcc hlau hid
    refine ⟨?_, hpaired, huntouched, fun hps hns => absurd ⟨hps, hns⟩ hp, fun _ => hreport⟩
    rw [State.reportAdjacency_now, State.setEnd_now, hnow]

end Sys2Proof.Machine
end

section
/-! The settled statements about the line reset (R75, R93, R145, R174). -/

namespace Sys2Proof.Machine

/-! ### The LAU's part of a line reset -/

/-- A line reset empties the transmit store, whatever the transmitter does. -/
theorem Lau.lineReset_store (l : Lau) :
    l.lineReset.reformSlot = none ∧ l.lineReset.holdSlot = none ∧ l.lineReset.safety = []
      ∧ l.lineReset.consist = [] ∧ l.lineReset.supply = [] := by
  unfold Lau.lineReset
  dsimp only
  split <;> exact ⟨rfl, rfl, rfl, rfl, rfl⟩

/-- A frame in BACKOFF or REWAIT is discarded (R75). -/
theorem Lau.lineReset_offLine (l : Lau) (h : (∃ t, l.tx = .backoff t) ∨ l.tx = .rewait) :
    l.lineReset.tx = .ready ∧ l.lineReset.current = none := by
  unfold Lau.lineReset
  obtain ⟨t, h⟩ | h := h <;> rw [h] <;> exact ⟨rfl, rfl⟩

/-- A frame in SEND or JAM is marked and stays (R75 steps 4 and 5). -/
theorem Lau.lineReset_onLine (l : Lau) (t : Time) (h : l.tx = .send t ∨ l.tx = .jam t) :
    l.lineReset.tx = l.tx
      ∧ l.lineReset.current.map CurrentFrame.frame = l.current.map CurrentFrame.frame := by
  unfold Lau.lineReset
  obtain h | h := h <;> simp [h, Function.comp_def]

/-! ### The state after a line reset -/

@[simp] theorem State.lineReset_lau (s : State) : s.lineReset.lau = s.lau.lineReset := by
  simp [State.lineReset]
@[simp] theorem State.lineReset_rxp (s : State) : s.lineReset.rxp = { receiving := false, queue := [] } := by
  simp [State.lineReset]
@[simp] theorem State.lineReset_lhu (s : State) :
    s.lineReset.lhu = { congested := false, ownHold := none, resend := none, holds := [] } := by
  simp [State.lineReset]
@[simp] theorem State.lineReset_dcu (s : State) : s.lineReset.dcu = { s.dcu with schedule := [] } := by
  simp [State.lineReset]
@[simp] theorem State.lineReset_straps (s : State) : s.lineReset.straps = s.straps := by
  simp [State.lineReset]
@[simp] theorem State.lineReset_now (s : State) : s.lineReset.now = s.now := by
  simp [State.lineReset]
@[simp] theorem State.lineReset_endA (s : State) : s.lineReset.endA = s.endA := by
  simp [State.lineReset]
@[simp] theorem State.lineReset_endB (s : State) : s.lineReset.endB = s.endB := by
  simp [State.lineReset]
@[simp] theorem State.lineReset_cc (s : State) : s.lineReset.cc = s.cc := by
  simp [State.lineReset]
@[simp] theorem State.lineReset_otb (s : State) : s.lineReset.otb = s.otb := by
  simp [State.lineReset]
@[simp] theorem State.lineReset_dlc (s : State) : s.lineReset.dlc = s.dlc := by
  simp [State.lineReset]
@[simp] theorem State.lineReset_hsu (s : State) : s.lineReset.hsu = s.hsu := by
  simp [State.lineReset]
@[simp] theorem State.lineReset_port (s : State) : s.lineReset.port = s.port := by
  simp [State.lineReset]

/-- An open LINE_RESET is answered OK, with the blocks reset (R174). -/
theorem exec_lineReset_open (s : State) (h : s.portOpen) :
    exec .lineReset s = .next (s.lineReset.setPort (s.port.prepare s.now (answer .ok))) := by
  obtain ⟨hr, hk⟩ := h
  rw [exec_lineReset, execLineReset, State.onRequest_open _ _ _ hr hk, State.lineReset_port, State.lineReset_now]

/-- Settles O37: the request is open, and each block's part is the LAU's, or a write of fixed values. -/
theorem lineResetEmptiesLine : Obligations.LineResetEmptiesLine := by
  intro s h
  have offLine := s.lau.lineReset_offLine
  have transmitter := And.intro (fun t ht => offLine (.inl ⟨t, ht⟩))
    (And.intro (fun ht => offLine (.inr ht)) s.lau.lineReset_onLine)
  refine ⟨_, exec_lineReset_open s h, rfl, rfl, ?_⟩
  simpa [s.lau.lineReset_store, Port.prepare] using transmitter

end Sys2Proof.Machine
end

section
/-! The settled statement about external reset (R13, R40, R76, R94, R97, R106, R127, R146, R168, R176). -/

namespace Sys2Proof.Machine

/-! ### Released pins -/

/-- Every pin that OUT_POL governs is released in external reset (R97). -/
theorem State.polarised_inReset (s : State) (active : Bool) (h : s.inReset = true) :
    s.polarised active = .released := by
  simp [State.polarised, h]

/-! ### A beacon that external reset cuts off (R13) -/

/-- Ten bits make a character (R1), so the bit's index gives the character's. -/
theorem bitIndex_div_ten (d : Time) :
    d * (10 * Config.beaconChars) / Config.tEBCN / 10 = d * Config.beaconChars / Config.tEBCN := by
  simp only [Time, Config.beaconChars, Config.tEBCN] at *
  omega

/-- The bit on the transmit conductor, by the character it belongs to. -/
theorem EndLink.sendingBit_some (l : EndLink) (b : BeaconTx) (t : Time) (h : l.sending = some b) :
    l.sendingBit t =
      let k := (t - b.startedAt) * Config.beaconChars / Config.tEBCN
      if k < b.chars then
        (b.bytes[k]?).bind fun byte =>
          (charBits byte)[(t - b.startedAt) * (10 * Config.beaconChars) / Config.tEBCN % 10]?
      else none := by
  simp only [EndLink.sendingBit, h, bitIndex_div_ten]

/-- An end that sends no beacon has an idle conductor. -/
theorem EndLink.sendingBit_none (l : EndLink) (t : Time) (h : l.sending = none) : l.sendingBit t = none := by
  simp [EndLink.sendingBit, h]

/-- The conductor is idle once the characters that go out are out. -/
theorem EndLink.sendingBit_over (l : EndLink) (b : BeaconTx) (t : Time) (h : l.sending = some b)
    (ht : b.chars ≤ (t - b.startedAt) * Config.beaconChars / Config.tEBCN) : l.sendingBit t = none := by
  rw [l.sendingBit_some b t h]
  exact if_neg (Nat.not_lt.mpr ht)

theorem EndLink.held_sending_none (l : EndLink) (now : Time) (h : l.sending = none) :
    (l.held now).sending = none := by
  simp [EndLink.held, EndLink.cutBeacon, h]

/-- What of a beacon goes out still: the characters that have begun. -/
theorem EndLink.held_sending_some (l : EndLink) (now : Time) (b : BeaconTx) (h : l.sending = some b) :
    (l.held now).sending = some
      { b with chars := min b.chars ((now - b.startedAt) * Config.beaconChars / Config.tEBCN + 1) } := by
  simp [EndLink.held, EndLink.cutBeacon, h]

/-- A character's time after the cut, the conductor is idle (R13). -/
theorem EndLink.held_sendingBit_after (l : EndLink) (now t : Time) (b : BeaconTx) (h : l.sending = some b)
    (hb : b.startedAt ≤ now) (ht : now + Config.tECHR ≤ t) : (l.held now).sendingBit t = none := by
  refine EndLink.sendingBit_over _ _ t (l.held_sending_some now b h) (Nat.le_trans (Nat.min_le_right _ _) ?_)
  simp only [Time, Config.beaconChars, Config.tEBCN, Config.tECHR] at *
  omega

/-- While the character in progress at the cut goes on, its bits are those of the beacon (R13). -/
theorem EndLink.held_sendingBit_during (l : EndLink) (now t : Time) (b : BeaconTx) (h : l.sending = some b)
    (ht : (t - b.startedAt) * Config.beaconChars / Config.tEBCN
      = (now - b.startedAt) * Config.beaconChars / Config.tEBCN) :
    (l.held now).sendingBit t = l.sendingBit t := by
  rw [EndLink.sendingBit_some _ _ t (l.held_sending_some now b h), l.sendingBit_some b t h]
  simp only [ht, Nat.lt_min, Nat.lt_succ_self, and_true]

/-! ### Asserted and released -/

theorem State.asserted_endLink (s : State) (e : CoachEnd) : s.asserted.endLink e = (s.endLink e).held s.now := by
  cases e <;> rfl

theorem State.released_endLink (s : State) (st : Straps) (e : CoachEnd) :
    (s.released st).endLink e = EndLink.atRelease (s.pins.contact e) := by
  cases e <;> rfl

theorem Port.atRelease_counter (k : Nat) : Port.atRelease.counter k = 0 := by
  rw [Port.counter, Port.atRelease, List.getD_eq_getElem?_getD, List.getElem?_replicate]
  split <;> rfl

theorem Dlc.atRelease_indices (st : Straps) (pins : Pins) :
    (Dlc.atRelease st pins).leaves.map Leaf.index = st.leafIndices := by
  simp [Dlc.atRelease, Leaf.atRelease, Function.comp_def]

/-- A present leaf is LOCKED or FAULT UNLOCKED at release, by its raw CL (R127). -/
theorem Dlc.atRelease_leaf (st : Straps) (pins : Pins) (l : Leaf) (h : l ∈ (Dlc.atRelease st pins).leaves) :
    l = Leaf.atRelease l.index (pins.cl.getD l.index false) (pins.ob.getD l.index false) := by
  obtain ⟨i, -, rfl⟩ := List.mem_map.mp h
  rfl

/-! ### The line in external reset -/

theorem exec_carrierOnset_inReset (s : State) (h : s.inReset = true) :
    exec .carrierOnset s = .next (s.setPins { s.pins with peerCarrier := true }) := by
  rw [exec_carrierOnset, execCarrierOnset, State.inService_inReset _ _ (by simpa using h)]

theorem exec_frameArrival_inReset (s : State) (r : Reception) (h : s.inReset = true) :
    exec (.frameArrival r) s = .next (s.setPins { s.pins with peerCarrier := false }) := by
  rw [exec_frameArrival, execFrameArrival]
  split
  case isTrue => rw [State.inService_inReset _ _ (by simpa using h)]
  case isFalse hc =>
    have level : { s.pins with peerCarrier := false } = s.pins := by
      rw [← Bool.eq_false_iff.mpr hc]
    rw [level]
    rfl

/-- Settles O12: the asserted and the released state, field by field. -/
theorem externalResetAsserts : Obligations.ExternalResetAsserts := by
  refine ⟨?asserts, ?releases, fun s r h => ⟨exec_carrierOnset_inReset s h, exec_frameArrival_inReset s r h⟩⟩
  case asserts =>
    intro s hr
    have asserts : exec .externalResetAssert s = .next s.asserted := by
      rw [exec_externalResetAssert, execExternalResetAssert, hr]
      rfl
    have pins (active : Bool) : s.asserted.polarised active = .released :=
      State.polarised_inReset _ active rfl
    refine ⟨_, asserts, rfl, rfl, rfl, rfl, rfl, rfl, rfl, rfl, rfl, rfl, rfl, rfl, rfl, rfl, rfl, rfl, rfl,
      Port.atRelease_counter, ?ends, fun i => ⟨pins _, pins _⟩, fun _ => pins _, fun _ => pins _, rfl, rfl, rfl,
      rfl, rfl, ?beacons⟩
    case ends =>
      intro e
      rw [s.asserted_endLink e]
      exact ⟨rfl, rfl, rfl, rfl⟩
    case beacons =>
      intro e t
      rw [s.asserted_endLink e]
      exact ⟨fun hn => EndLink.sendingBit_none _ t (EndLink.held_sending_none _ _ hn),
        fun b hb hs => ⟨EndLink.held_sendingBit_after _ _ t b hb hs, EndLink.held_sendingBit_during _ _ t b hb⟩⟩
  case releases =>
    intro s p
    refine ⟨s.released (Straps.latch p), rfl, rfl, rfl, rfl, rfl, rfl, rfl, rfl, rfl, rfl, rfl, rfl, rfl, rfl, rfl,
      rfl, rfl, rfl, rfl, rfl, rfl, rfl, rfl, rfl, rfl, rfl, ?ends, rfl, rfl, rfl, rfl,
      Dlc.atRelease_indices _ _, ?leaves, rfl, rfl, rfl, rfl, rfl, rfl, rfl, rfl, rfl, rfl, rfl⟩
    case ends =>
      intro e
      rw [s.released_endLink _ e]
      exact ⟨rfl, rfl, rfl, rfl, rfl, rfl, rfl, rfl⟩
    case leaves =>
      intro l hl
      rw [Dlc.atRelease_leaf _ _ l hl]
      refine ⟨rfl, rfl, fun hc => ?_, fun hc => ?_⟩ <;> simpa [Leaf.atRelease] using hc

end Sys2Proof.Machine
end

section
/-! The settled statements about the raw inputs, the beacons that go out, and beacon errors (R1 to R6, R108). -/

namespace Sys2Proof.Machine

/-! ### Raw inputs (R2, R108) -/

/-- The filter of a present leaf takes a raw level (R108). -/
theorem exec_rawLeafInputChange_present (s : State) (i : Nat) (input : LeafInput) (level : Bool) (l : Leaf)
    (hr : s.inReset = false) (hl : s.leaf? i = some l) :
    exec (.rawLeafInputChange i input level) s = .next
      ((s.setPins (s.pins.setLeafInput i input level)).setDlc
        (s.dlc.put (l.filterRaw input level s.now))) := by
  have pinned : (s.setPins (s.pins.setLeafInput i input level)).leaf? i = some l := hl
  rw [exec_rawLeafInputChange, execRawLeafInputChange, State.inService_running _ _ (by simpa using hr), pinned]
  rfl

/-- An absent leaf's input only has its pin (R107). -/
theorem exec_rawLeafInputChange_absent (s : State) (i : Nat) (input : LeafInput) (level : Bool)
    (hl : s.leaf? i = none) :
    exec (.rawLeafInputChange i input level) s = .next (s.setPins (s.pins.setLeafInput i input level)) := by
  have pinned : (s.setPins (s.pins.setLeafInput i input level)).leaf? i = none := hl
  rw [exec_rawLeafInputChange, execRawLeafInputChange]
  cases hr : s.inReset
  · rw [State.inService_running _ _ (by simpa using hr), pinned]
  · rw [State.inService_inReset _ _ (by simpa using hr)]

/-- Settles O14: the pin takes the level, and the debounce or the filter of its input follows it. -/
theorem rawInputsRunFilters : Obligations.RawInputsRunFilters := by
  refine ⟨?contact, ?present, exec_rawLeafInputChange_absent⟩
  case contact =>
    intro s e level hr
    rw [exec_rawContactChange, execRawContactChange, State.inService_running _ _ (by simpa using hr),
      State.setPins_endLink]
    rfl
  case present =>
    intro s i level l hr hl
    exact ⟨exec_rawLeafInputChange_present s i .cl level l hr hl,
      exec_rawLeafInputChange_present s i .ob level l hr hl⟩

/-! ### Characters and beacons (R1, R190) -/

/-- The number that bits spell, least significant first, has these bits. -/
theorem testBit_foldr_bits (bits : List Bool) (i : Nat) :
    (bits.foldr (fun (bit : Bool) (acc : Nat) => (if bit then 1 else 0) + 2 * acc) 0).testBit i
      = bits.getD i false := by
  induction bits generalizing i with
  | nil => simp
  | cons b bs ih =>
    rw [List.foldr_cons, Nat.add_comm]
    cases i with
    | zero => cases b <;> simp [Nat.testBit_zero]
    | succ i =>
      have half (acc : Nat) : (2 * acc + if b then 1 else 0) / 2 = acc := by
        split <;> omega
      rw [Nat.testBit_succ, half, ih, List.getD_cons_succ]

/-- A character is read back as the byte that was sent (R1). -/
theorem byteOfBits_dataBits (b : Byte) : byteOfBits (dataBits b) = b := by
  apply BitVec.eq_of_getLsbD_eq
  intro i hi
  rw [byteOfBits, BitVec.getLsbD_ofNat, testBit_foldr_bits]
  simp [dataBits, hi]

theorem endOfCode_endCode (e : CoachEnd) : endOfCode (endCode e) = some e := by
  cases e <;> rfl

/-- A beacon of another node with its own check value names that node and its end (R6). -/
theorem checkBeacon_of_sent (id own : NodeId) (e : CoachEnd) (h0 : id ≠ 0) (hown : id ≠ own) :
    checkBeacon own { senderId := id, senderEnd := endCode e, crc := crc8 (beaconBody id (endCode e)) }
      = some { id := id, coachEnd := e } := by
  rw [checkBeacon, if_neg (fun h => h rfl), if_neg (not_or.mpr ⟨h0, hown⟩), endOfCode_endCode]

/-- A beacon is invalid for its check value, its ID or its end byte (R6). -/
theorem checkBeacon_invalid (own : NodeId) (b : BeaconBytes)
    (h : b.crc ≠ crc8 (beaconBody b.senderId b.senderEnd)
      ∨ (b.senderEnd ≠ 0x41 ∧ b.senderEnd ≠ 0x42) ∨ b.senderId = 0 ∨ b.senderId = own) :
    checkBeacon own b = none := by
  unfold checkBeacon
  by_cases hc : crc8 (beaconBody b.senderId b.senderEnd) ≠ b.crc
  · exact if_pos hc
  by_cases hid : b.senderId = 0 ∨ b.senderId = own
  · rw [if_neg hc, if_pos hid]
  · obtain h | ⟨ha, hb⟩ | h := h
    · exact absurd h.symm hc
    · have noEnd : endOfCode b.senderEnd = none := by rw [endOfCode, if_neg ha, if_neg hb]
      rw [if_neg hc, if_neg hid, noEnd]
    · exact absurd h hid

/-- Settles O15: the two events at their occasions, and the check and the bits of what is sent. -/
theorem contactCouplesAndBeaconsGoOut : Obligations.ContactCouplesAndBeaconsGoOut := by
  refine ⟨?contact, ⟨?schedule, fun id own e h0 hown => ⟨rfl, checkBeacon_of_sent id own e h0 hown⟩⟩,
    fun b => ⟨rfl, byteOfBits_dataBits b⟩⟩
  case contact =>
    intro s e t hr hd ht
    have occasion : s.debounceOccasion e true = some t := by simp [State.debounceOccasion, hd, ht]
    rw [exec_debouncedContactActive, execDebouncedContactActive, occasion, State.onOccasion_some _ _ _ hr]
    rfl
  case schedule =>
    intro s e t hr hs ht
    have occasion : s.beaconOccasion e = some t := by simp [State.beaconOccasion, EndLink.listening, hs, ht]
    rw [exec_endBeaconSend, execEndBeaconSend, occasion, State.onOccasion_some _ _ _ hr]
    simp only [State.advanceTo_endLink, ht, EndLink.send, State.advanceTo_id, State.advanceTo_now, Option.map_some]

/-! ### The receiver (R1, R6) -/

theorem EndReceiver.take_noStop (r : EndReceiver) (c : LineChar) (hc : c.stop = false) :
    r.take c = ({ quietFrom := c.start + Config.tECHR, phase := .discarding }, none) := by
  simp [EndReceiver.take, hc]

/-- A character before tEGAP of idle, with no beacon seen since listening began, only ends the idle time. -/
theorem EndReceiver.take_waiting (r : EndReceiver) (c : LineChar) (hc : c.stop = true)
    (hq : c.start < r.quietFrom + Config.tEGAP) (hp : r.phase = .waiting) :
    r.take c = ({ quietFrom := c.start + Config.tECHR, phase := .waiting }, none) := by
  simp [EndReceiver.take, hc, Nat.not_le.mpr hq, hp]

/-- A character too early after a beacon, or in a faulty reception, is discarded (R1). -/
theorem EndReceiver.take_early (r : EndReceiver) (c : LineChar) (hc : c.stop = true)
    (hq : c.start < r.quietFrom + Config.tEGAP) (hp : r.phase = .afterBeacon ∨ r.phase = .discarding) :
    r.take c = ({ quietFrom := c.start + Config.tECHR, phase := .discarding }, none) := by
  obtain hp | hp := hp <;> simp [EndReceiver.take, hc, Nat.not_le.mpr hq, hp]

/-- A reception in progress is faulty tEGAP after its last character (R1). -/
theorem EndReceiver.faultAt_of_not_quiet (r : EndReceiver) (h : ¬r.quiet) :
    r.faultAt = some (r.quietFrom + Config.tEGAP) := by
  unfold EndReceiver.quiet at h
  unfold EndReceiver.faultAt
  cases hp : r.phase with
  | waiting => exact absurd (.inl hp) h
  | afterBeacon => exact absurd (.inr hp) h
  | assembling bytes => rfl
  | discarding => rfl

/-- An OPEN end hears nothing (R1). -/
theorem State.receiveChars_openEnd (s : State) (e : CoachEnd) (chars : List LineChar)
    (h : (s.endLink e).state = .openEnd) : s.receiveChars e chars = s := by
  unfold State.receiveChars
  induction chars with
  | nil => rfl
  | cons c cs ih =>
    have unheard : s.receiveChar e c = s := by simp [State.receiveChar, EndLink.listening, h]
    rw [List.foldl_cons, unheard, ih]

theorem exec_endBeaconArrival_openEnd (s : State) (e : CoachEnd) (chars : List LineChar)
    (h : (s.endLink e).state = .openEnd) : exec (.endBeaconArrival e chars) s = .next s := by
  rw [exec_endBeaconArrival, execEndBeaconArrival, State.inService, s.receiveChars_openEnd e chars h, ite_self]

theorem exec_faultyReception_openEnd (s : State) (e : CoachEnd) (h : (s.endLink e).state = .openEnd) :
    exec (.faultyReception e) s = .next s := by
  have noOccasion : s.faultOccasion e = none := by simp [State.faultOccasion, EndLink.listening, h]
  rw [exec_faultyReception, execFaultyReception, noOccasion, State.onOccasion_none]

/-- Settles O17: an invalid beacon and a faulty reception only count, by the receiver's own cases. -/
theorem beaconErrorsOnlyCount : Obligations.BeaconErrorsOnlyCount := by
  refine ⟨?invalid, ?faulty, ?receiver, fun s => State.count_portCounters s .beaconErrors,
    fun s e chars h => ⟨exec_endBeaconArrival_openEnd s e chars h, exec_faultyReception_openEnd s e h⟩,
    checkBeacon_invalid⟩
  case invalid =>
    intro s e chars hr hs hq ht hn
    rw [exec_endBeaconArrival_train s e chars hr hs hq ht, State.arriveBeacon, State.hearing_id, hn]
    rfl
  case faulty =>
    intro s e hr hs hq
    have occasion : s.faultOccasion e = some ((s.endLink e).rx.quietFrom + Config.tEGAP) := by
      simp [State.faultOccasion, EndLink.listening, hs, EndReceiver.faultAt_of_not_quiet _ hq]
    rw [exec_faultyReception, execFaultyReception, occasion, State.onOccasion_some _ _ _ hr, State.endFaulty,
      State.advanceTo_endLink]
  case receiver =>
    intro r c next
    refine ⟨r.take_noStop c, r.take_first c, fun hc hq => ⟨r.take_waiting c hc hq, r.take_early c hc hq, ?_, ?_⟩⟩
    · intro bytes hp h5
      rw [r.take_next c bytes hc hp hq, if_neg (mt Nat.succ.inj h5)]
    · intro bytes hp h5
      rw [r.take_next c bytes hc hp hq, if_pos (congrArg (· + 1) h5)]

end Sys2Proof.Machine
end

section
/-! SUPPORT. The dispatcher's arms of formation, GATHER entry with the closure test of the own record, and what
starting and adopting a formation write block by block (R18, R19, R23 to R27, R144, R159, R166). -/

namespace Sys2Proof.Machine

/-! ### The dispatcher, for the commands of formation -/

theorem exec_tstartExpiry (s : State) : exec .tstartExpiry s = execTstartExpiry s := rfl

theorem exec_rollRepeat (s : State) : exec .rollRepeat s = execRollRepeat s := rfl

theorem exec_gatherTimeout (s : State) : exec .gatherTimeout s = execGatherTimeout s := rfl

theorem exec_orderingEnd (s : State) : exec .orderingEnd s = execOrderingEnd s := rfl

theorem exec_tallyRepeat (s : State) : exec .tallyRepeat s = execTallyRepeat s := rfl

theorem exec_tallyTimeout (s : State) : exec .tallyTimeout s = execTallyTimeout s := rfl

theorem exec_reform (s : State) : exec .reform s = execReform s := rfl

theorem exec_cabClaim (code : Byte) (s : State) : exec (.cabClaim code) s = execCabClaim code s := rfl

theorem exec_cabRelease (code : Byte) (s : State) : exec (.cabRelease code) s = execCabRelease code s := rfl

theorem exec_frameTake (s : State) : exec .frameTake s = execFrameTake s := rfl

/-! ### The closure test of the own record (R27) -/

theorem RollRecord.openEnds_eq_two_iff (r : RollRecord) :
    r.openEnds = 2 ↔ r.endA = .openEnd ∧ r.endB = .openEnd := by
  by_cases ha : r.endA = .openEnd <;> by_cases hb : r.endB = .openEnd <;>
    simp [RollRecord.openEnds, bothEnds, RollRecord.status, ha, hb]

theorem linkFrom_openEnd (rs : List RollRecord) (r : RollRecord) (e : CoachEnd) (h : r.status e = .openEnd) :
    linkFrom rs r e = none := by
  rw [linkFrom, h]

theorem walkOut_openEnd (rs : List RollRecord) (fuel : Nat) (walked : List NodeId) (r : RollRecord) (e : CoachEnd)
    (h : r.status e = .openEnd) : walkOut rs fuel walked r e = [] := by
  cases fuel with
  | zero => rfl
  | succ fuel => rw [walkOut, linkFrom_openEnd rs r e h]

/-- A record with both ends OPEN is a chain of its own. -/
theorem chainFrom_alone (rs : List RollRecord) (r : RollRecord) (ha : r.endA = .openEnd) (hb : r.endB = .openEnd) :
    chainFrom rs r = [{ record := r, facing := .a }] := by
  simp [chainFrom, walkOut_openEnd rs _ _ r .a ha, walkOut_openEnd rs _ _ r .b hb]

/-- The own record alone is a closed set exactly with both ends OPEN (R27). -/
theorem closed_alone_iff (r : RollRecord) :
    closed [r] false r = true ↔ r.endA = .openEnd ∧ r.endB = .openEnd := by
  constructor
  · intro h
    rw [← r.openEnds_eq_two_iff]
    simp only [closed, oneChain, Bool.and_eq_true, decide_eq_true_eq] at h
    exact h.2.1
  · rintro ⟨ha, hb⟩
    have two := r.openEnds_eq_two_iff.mpr ⟨ha, hb⟩
    simp [closed, noUnpaired, linksMutual, oneChain, bothEnds, RollRecord.status, ha, hb, two,
      chainFrom_alone [r] r ha hb]

/-! ### GATHER entry (R24) -/

theorem State.ownRecord_id (s : State) : s.ownRecord.id = s.id := rfl

/-- The CC's values after GATHER entry (R24), with the closure test of the own record (R27). -/
def Cc.gatherEntry (c : Cc) (now : Time) (own : RollRecord) : Cc :=
  { c.clearForGather now with
    candidates := [own]
    tGather := if own.endA = .openEnd ∧ own.endB = .openEnd then none else some (now + Config.tGATHER)
    ordering :=
      if own.endA = .openEnd ∧ own.endB = .openEnd then
        some { chain := chainFrom [own] own, partialFlag := false, endsBy := now + Config.tORDER }
      else c.ordering }

/-- The ROLL that the node builds at a number (R25, R54). -/
def State.rollFrame (s : State) (n : FormationNumber) : Frame where
  kind := .roll
  sender := s.id
  number := n
  position := 0
  payload := rollPayload s.ownRecord

theorem State.submitRoll_lau (s : State) :
    s.submitRoll.lau = s.lau.submitConsist (s.rollFrame s.cc.number) := rfl

theorem State.ownCandidate_alone (s : State) (hc : s.cc.candidates = [s.ownRecord]) :
    s.ownCandidate = s.ownRecord := by
  simp [State.ownCandidate, recordOf, hc, s.ownRecord_id]

/-- The closure test when the candidate table holds the own record alone. -/
theorem State.testClosure_alone (s : State) (hc : s.cc.candidates = [s.ownRecord]) (ho : s.cc.oversize = false) :
    s.testClosure =
      if s.ownRecord.endA = .openEnd ∧ s.ownRecord.endB = .openEnd then
        s.setCc
          { s.cc with
            tGather := none
            ordering := some
              { chain := chainFrom [s.ownRecord] s.ownRecord, partialFlag := false
                endsBy := s.now + Config.tORDER } }
      else s := by
  rw [State.testClosure, State.startOrdering, s.ownCandidate_alone hc, hc, ho]
  by_cases h : s.ownRecord.endA = .openEnd ∧ s.ownRecord.endB = .openEnd
  · rw [if_pos ((closed_alone_iff _).mpr h), if_pos h]
  · rw [if_neg (mt (closed_alone_iff _).mp h), if_neg h]

/-- The state in which GATHER entry makes the closure test. -/
theorem State.enterGather_eq (s : State) :
    s.enterGather
      = ((s.setCc { s.cc.clearForGather s.now with candidates := [s.ownRecord] }).submitRoll).testClosure := rfl

theorem State.enterGather_cc (s : State) : s.enterGather.cc = s.cc.gatherEntry s.now s.ownRecord := by
  rw [State.enterGather_eq, State.testClosure_alone _ rfl rfl, Cc.gatherEntry]
  have own : ((s.setCc { s.cc.clearForGather s.now with candidates := [s.ownRecord] }).submitRoll).ownRecord
      = s.ownRecord := rfl
  rw [own]
  by_cases h : s.ownRecord.endA = .openEnd ∧ s.ownRecord.endB = .openEnd
  · simp only [if_pos h]
    rfl
  · simp only [if_neg h]
    rfl

/-- GATHER entry queues the own ROLL (R24 step 3). -/
theorem State.enterGather_lau (s : State) :
    s.enterGather.lau = s.lau.submitConsist (s.rollFrame s.cc.number) := by
  rw [State.enterGather_eq, State.testClosure_lau, State.submitRoll_lau]
  rfl

/-! ### The own ROLL and TALLY in the CONSIST queue (R62) -/

theorem mem_replaceKind (k : FrameKind) (f : Frame) (q : List Frame) (h : ∃ g ∈ q, g.kind = k) :
    f ∈ replaceKind k f q := by
  induction q with
  | nil => simp at h
  | cons g gs ih =>
    unfold replaceKind
    split
    case isTrue => exact List.mem_cons_self
    case isFalse hg =>
      obtain ⟨x, hx, hk⟩ := h
      obtain rfl | hx := List.mem_cons.mp hx
      · exact absurd hk hg
      · exact List.mem_cons_of_mem _ (ih ⟨x, hx, hk⟩)

/-- A frame is taken by a queue that has room, or holds a frame of its kind. -/
theorem mem_superseding (cap : Nat) (q : List Frame) (f : Frame)
    (h : (∃ g ∈ q, g.kind = f.kind) ∨ q.length < cap) : f ∈ (superseding cap q f).1 := by
  unfold superseding
  by_cases hk : ∃ g ∈ q, g.kind = f.kind
  · rw [if_pos (by simpa using hk)]
    exact mem_replaceKind f.kind f q hk
  · rw [if_neg (by simpa using hk), if_pos (h.resolve_left hk)]
    simp

/-- In a sound store the own ROLL and the own TALLY always find a place (R58, R62). -/
theorem State.storeSound.mem_submitConsist {s : State} (h : s.storeSound) (f : Frame)
    (hf : f.kind = .roll ∨ f.kind = .tally) : f ∈ (s.lau.submitConsist f).consist := by
  obtain ⟨-, ⟨-, -, -, kinds, -⟩, -, oneRoll, oneTally⟩ := h
  refine mem_superseding _ _ _ ?_
  by_cases waits : ∃ g ∈ s.lau.consist, g.kind = f.kind
  · exact .inl waits
  refine .inr ?_
  have allOf (k : FrameKind) (hk : ∀ g ∈ s.lau.consist, g.kind = k) :
      ofKind k s.lau.consist = s.lau.consist.length :=
    congrArg List.length (List.filter_eq_self.mpr (by simpa using hk))
  have other (g : Frame) (hg : g ∈ s.lau.consist) : g.kind ≠ f.kind := fun hk => waits ⟨g, hg, hk⟩
  obtain hf | hf := hf
  · rw [← allOf .tally fun g hg => (kinds g hg).resolve_left (hf ▸ other g hg)]
    exact Nat.lt_succ_of_le oneTally
  · rw [← allOf .roll fun g hg => (kinds g hg).resolve_right (hf ▸ other g hg)]
    exact Nat.lt_succ_of_le oneRoll

/-! ### Leaving a state for GATHER (R18, R19, R23, R39) -/

/-- An abandoned computation joins those that run on without a result (R28). -/
theorem Cc.abandonOrdering_eq (c : Cc) :
    c.abandonOrdering =
      { c with ordering := none, abandoned := c.abandoned ++ (c.ordering.map OrderingRun.endsBy).toList } := by
  unfold Cc.abandonOrdering
  split
  case h_1 o h => rw [h]; rfl
  case h_2 h =>
    rw [h, Option.map_none, Option.toList_none, List.append_nil, ← h]

/-- The CC's values when it takes a number and leaves its state for GATHER. -/
def Cc.leaveFor (c : Cc) (n : FormationNumber) : Cc :=
  { c with
    number := n
    ordering := none
    abandoned := c.abandoned ++ (c.ordering.map OrderingRun.endsBy).toList
    tStart := if c.formState = .start then none else c.tStart
    failedCount := if c.formState = .solo then 0 else c.failedCount }

theorem State.takeNumber_cc (s : State) (n : FormationNumber) :
    (s.takeNumber n).cc = { s.cc.abandonOrdering with number := n } := rfl

theorem State.leaveForGather_cc (s : State) (r : LeftReason) :
    (s.leaveForGather r).cc =
      { s.cc with
        tStart := if s.cc.formState = .start then none else s.cc.tStart
        failedCount := if s.cc.formState = .solo then 0 else s.cc.failedCount } := by
  unfold State.leaveForGather
  cases h : s.cc.formState <;> simp only [reduceCtorEq, if_true, if_false, State.setCc_cc, State.post_cc]

/-- The state in which a node that takes a number enters GATHER, for every submission and notice before it. -/
theorem State.leaveFor_enterGather_cc (s t : State) (n : FormationNumber) (hcc : t.cc = s.cc.leaveFor n)
    (hid : t.straps = s.straps) (hnow : t.now = s.now) (ha : t.endA = s.endA) (hb : t.endB = s.endB) :
    t.enterGather.cc = (s.cc.leaveFor n).gatherEntry s.now s.ownRecord := by
  have own : t.ownRecord = s.ownRecord := by simp [State.ownRecord, hcc, hid, ha, hb, Cc.leaveFor]
  rw [State.enterGather_cc, hcc, hnow, own]

/-- The CC after starting a formation: the next number, and GATHER from the own record (R19, R24). -/
theorem State.startFormation_cc (s : State) (r : ReformReason) :
    (s.startFormation r).cc = (s.cc.leaveFor (s.cc.number + 1)).gatherEntry s.now s.ownRecord := by
  rw [State.startFormation, State.tellLeft_cc]
  refine State.leaveFor_enterGather_cc s _ _ ?_ (by simp) (by simp) (by simp) (by simp)
  rw [State.leaveForGather_cc, State.submitReform_cc, State.takeNumber_cc, Cc.abandonOrdering_eq]
  rfl

/-- The CC after an adoption: the adopted number, and GATHER from the own record (R18, R24). -/
theorem State.adopt_cc (s : State) (n : FormationNumber) (r : LeftReason) :
    (s.adopt n r).cc = (s.cc.leaveFor n).gatherEntry s.now s.ownRecord := by
  rw [State.adopt, State.tellLeft_cc]
  refine State.leaveFor_enterGather_cc s _ _ ?_ (by simp) (by simp) (by simp) (by simp)
  rw [State.leaveForGather_cc, State.takeNumber_cc, Cc.abandonOrdering_eq]
  rfl

theorem State.rollFrame_congr (s t : State) (n : FormationNumber) (hid : t.straps = s.straps)
    (ha : t.endA = s.endA) (hb : t.endB = s.endB) (hcab : t.cc.ownCab = s.cc.ownCab) :
    t.rollFrame n = s.rollFrame n := by
  simp [State.rollFrame, State.id, State.ownRecord, hid, ha, hb, hcab]

@[simp] theorem State.takeNumber_ownCab (s : State) (n : FormationNumber) :
    (s.takeNumber n).cc.ownCab = s.cc.ownCab := by
  rw [State.takeNumber_cc, Cc.abandonOrdering_eq]

@[simp] theorem State.leaveForGather_ownCab (s : State) (r : LeftReason) :
    (s.leaveForGather r).cc.ownCab = s.cc.ownCab := by
  rw [State.leaveForGather_cc]

/-- The transmit store after starting a formation: the REFORM in its slot and the own ROLL (R19, R24). -/
theorem State.startFormation_lau (s : State) (r : ReformReason) :
    (s.startFormation r).lau =
      ((s.takeNumber (s.cc.number + 1)).submitReform r).lau.submitConsist (s.rollFrame (s.cc.number + 1)) := by
  rw [State.startFormation, State.tellLeft_lau, State.enterGather_lau, State.leaveForGather_lau,
    State.rollFrame_congr s _ _ (by simp) (by simp) (by simp) (by simp)]
  simp

theorem State.adopt_lau (s : State) (n : FormationNumber) (r : LeftReason) :
    (s.adopt n r).lau = s.lau.submitConsist (s.rollFrame n) := by
  rw [State.adopt, State.tellLeft_lau, State.enterGather_lau, State.leaveForGather_lau,
    State.rollFrame_congr s _ _ (by simp) (by simp) (by simp) (by simp)]
  simp

/-! ### Doors-secure (R141, R142) -/

theorem State.doorsSecure_notFormed (s : State) (h : s.isFormed = false) : s.doorsSecure = false := by
  simp [State.doorsSecure, h]

theorem State.evalDoorsSecure_dcu (s : State) :
    s.evalDoorsSecure.dcu = { s.dcu with secureOn := s.doorsSecure } := by
  unfold State.evalDoorsSecure
  split
  case isTrue h => rw [h]
  case isFalse => rfl

/-! ### What the DCU, the HSU and the port are told (R23, R144, R159, R166) -/

theorem State.isFormed_eq_true_iff (s : State) : s.isFormed = true ↔ s.cc.formState = .formed := by
  simp [State.isFormed]

theorem State.isFormed_eq_false_iff (s : State) : s.isFormed = false ↔ s.cc.formState ≠ .formed := by
  simp [State.isFormed]

theorem State.tellLeft_false (s : State) : s.tellLeft false = s := rfl

theorem State.tellLeft_true (s : State) : s.tellLeft true = s.dcuLeaveFormed.hsuLeaveFormed := rfl

theorem State.dcuLeaveFormed_dcu (s : State) (h : s.isFormed = false) :
    s.dcuLeaveFormed.dcu = { s.dcu with doorstatTimer := none, doorstatOwed := none, secureOn := false } := by
  rw [State.dcuLeaveFormed, State.evalDoorsSecure_dcu, State.doorsSecure_notFormed _ (by simpa using h)]
  rfl

theorem State.hsuLeaveFormed_hsu_congr (s t : State) (hh : t.hsu = s.hsu) (hn : t.now = s.now) :
    t.hsuLeaveFormed.hsu = s.hsuLeaveFormed.hsu := by
  simp [State.hsuLeaveFormed, hh, hn]

theorem State.enterGather_isFormed (s : State) : s.enterGather.isFormed = false := by
  rw [State.isFormed_eq_false_iff, State.enterGather_formState]
  nofun

/-- Outside FORMED the DCU and the HSU are not told. -/
theorem State.startFormation_notFormed (s : State) (r : ReformReason) (h : s.cc.formState ≠ .formed) :
    (s.startFormation r).dcu = s.dcu ∧ (s.startFormation r).hsu = s.hsu := by
  rw [State.startFormation, s.isFormed_eq_false_iff.mpr h, State.tellLeft_false]
  simp

/-- Leaving FORMED turns doors-secure off and freezes the applied grant into HOLD (R144, R159, R166). -/
theorem State.startFormation_formed (s : State) (r : ReformReason) (h : s.cc.formState = .formed) :
    (s.startFormation r).dcu = { s.dcu with doorstatTimer := none, doorstatOwed := none, secureOn := false }
      ∧ (s.startFormation r).hsu = s.hsuLeaveFormed.hsu := by
  rw [State.startFormation, s.isFormed_eq_true_iff.mpr h, State.tellLeft_true, State.hsuLeaveFormed_dcu,
    State.dcuLeaveFormed_dcu _ (State.enterGather_isFormed _), State.hsuLeaveFormed_hsu_congr s _ (by simp) (by simp)]
  simp

theorem State.leaveForGather_port_quiet (s : State) (r : LeftReason) (hf : s.cc.formState ≠ .formed)
    (hs : s.cc.formState ≠ .solo) : (s.leaveForGather r).port = s.port := by
  unfold State.leaveForGather
  cases h : s.cc.formState <;> simp_all

theorem State.leaveForGather_notices (s : State) (r : LeftReason)
    (hf : s.cc.formState = .formed ∨ s.cc.formState = .solo) (hn : s.port.notices.length < Config.noticeCap) :
    (s.leaveForGather r).port.notices = s.port.notices ++ [.formationLeft r] := by
  unfold State.leaveForGather
  obtain h | h := hf <;> simp only [h] <;> exact s.post_notices _ hn

@[simp] theorem State.takeNumber_formState (s : State) (n : FormationNumber) :
    (s.takeNumber n).cc.formState = s.cc.formState := by
  rw [State.takeNumber_cc, Cc.abandonOrdering_eq]

/-- A formation started in START, GATHER or TALLY posts nothing (R23). -/
theorem State.startFormation_port_quiet (s : State) (r : ReformReason) (hf : s.cc.formState ≠ .formed)
    (hs : s.cc.formState ≠ .solo) : (s.startFormation r).port = s.port := by
  rw [State.startFormation, s.isFormed_eq_false_iff.mpr hf, State.tellLeft_false, State.enterGather_port,
    State.leaveForGather_port_quiet _ _ (by simpa using hf) (by simpa using hs)]
  simp

theorem State.tellLeft_mem_notices (s : State) (b : Bool) (n : Notice) (h : n ∈ s.port.notices) :
    n ∈ (s.tellLeft b).port.notices := by
  cases b
  · exact h
  · exact State.evalDoorsSecure_mem_notices _ n h

/-- Leaving FORMED or SOLO posts FORMATION_LEFT with the reason (R23). -/
theorem State.startFormation_mem_notices (s : State) (r : ReformReason)
    (hf : s.cc.formState = .formed ∨ s.cc.formState = .solo) (hn : s.port.notices.length < Config.noticeCap) :
    .formationLeft (.reformed r) ∈ (s.startFormation r).port.notices := by
  refine State.tellLeft_mem_notices _ _ _ ?_
  rw [State.enterGather_port, State.leaveForGather_notices _ _ (by simpa using hf) (by simpa using hn)]
  simp

end Sys2Proof.Machine
end

section
/-! The settled statements about what starts a formation and what its GATHER entry clears (R16, R19, R21, R23 to
R25, R27, R39). -/

namespace Sys2Proof.Machine

/-- An open REFORM starts a formation in every formation state, and is answered OK (R21). -/
theorem exec_reform_open (s : State) (hp : s.portOpen) :
    exec .reform s = .next ((s.startFormation .request).setPort
      ((s.startFormation .request).port.prepare s.now (answer .ok))) := by
  obtain ⟨hr, hk⟩ := hp
  rw [exec_reform, execReform, State.onRequest_open _ _ _ hr hk, State.startFormation_now]

/-! ### tSTART and REFORM (R16, R21) -/

/-- TSTART_EXPIRY at its occasion starts a formation with reason START (R16). -/
theorem exec_tstartExpiry_due (s : State) (t : Time) (hr : s.inReset = false) (hs : s.cc.formState = .start)
    (ht : s.cc.tStart = some t) : exec .tstartExpiry s = .next ((s.advanceTo t).startFormation .start) := by
  have occasion : s.startOccasion = some t := by rw [State.startOccasion, if_pos hs, ht]
  rw [exec_tstartExpiry, execTstartExpiry, occasion, State.onOccasion_some _ _ _ hr]

/-- Settles O19: both causes start a formation, whose blocks are those of `State.startFormation`. -/
theorem formationStartCauses : Obligations.FormationStartCauses := by
  refine ⟨?expiry, ?request⟩
  case expiry =>
    intro s t hr hs ht
    have quiet : (s.advanceTo t).cc.formState ≠ .formed ∧ (s.advanceTo t).cc.formState ≠ .solo := by
      rw [State.advanceTo_cc, hs]
      exact ⟨nofun, nofun⟩
    obtain ⟨hdcu, hhsu⟩ := (s.advanceTo t).startFormation_notFormed .start quiet.1
    refine ⟨_, exec_tstartExpiry_due s t hr hs ht, (s.advanceTo t).startFormation_started .start, ?_,
      by simp, by simp, by simp, by simp, by simp, by simp, hdcu, hhsu,
      (s.advanceTo t).startFormation_port_quiet .start quiet.1 quiet.2⟩
    rw [State.startFormation_cc]
    exact if_pos hs
  case request =>
    intro s hp
    refine ⟨_, exec_reform_open s hp, s.startFormation_started .request, rfl, rfl, by simp, by simp, by simp,
      by simp, by simp, by simp, s.startFormation_portCounters .request,
      s.startFormation_mem_notices .request, ?leaves, s.startFormation_notFormed .request⟩
    case leaves =>
      intro hf
      obtain ⟨hdcu, hhsu⟩ := s.startFormation_formed .request hf
      rw [State.setPort_dcu, State.setPort_hsu, hdcu, hhsu]
      exact ⟨rfl, rfl, rfl, rfl, rfl, rfl, rfl, rfl⟩

/-- Settles O20: the CC's values are those of `Cc.gatherEntry`, and a sound store takes the ROLL. -/
theorem gatherEntryStartsAfresh : Obligations.GatherEntryStartsAfresh := by
  intro s hp
  refine ⟨_, exec_reform_open s hp, ?_⟩
  simp only [State.setPort_cc, State.setPort_lau, State.startFormation_cc, State.startFormation_lau]
  refine ⟨rfl, rfl, rfl, rfl, rfl, rfl, rfl, rfl, rfl, rfl, rfl, fun alone => ?bothOpen, fun paired => ?notBoth,
    fun sound => ⟨_, sound.mem_submitConsist _ (.inl rfl), rfl, rfl, rfl, rfl, rfl⟩⟩
  case bothOpen => exact ⟨if_pos alone, congrArg Option.isSome (if_pos alone)⟩
  case notBoth => exact ⟨if_neg paired, if_neg paired⟩

/-! ### CAB requests (R21, R38, R173) -/

/-- Either row of the CAB request acts on its byte (log entry 19). -/
theorem exec_cab_open (s : State) (code : Byte) (i : Instr) (hp : s.portOpen)
    (hi : i = .cabClaim code ∨ i = .cabRelease code) :
    exec i s = .next ((s.cabRequest code).1.setPort
      ((s.cabRequest code).1.port.prepare (s.cabRequest code).1.now (s.cabRequest code).2)) := by
  obtain ⟨hr, hk⟩ := hp
  obtain rfl | rfl := hi
  · rw [exec_cabClaim, execCabClaim, State.onRequest_open _ _ _ hr hk]
  · rw [exec_cabRelease, execCabRelease, State.onRequest_open _ _ _ hr hk]

theorem claimOf_claim : claimOf 0x01 = some true := rfl

theorem claimOf_release : claimOf 0x02 = some false := rfl

theorem claimOf_invalid (code : Byte) (h1 : code ≠ 0x01) (h2 : code ≠ 0x02) : claimOf code = none := by
  rw [claimOf, if_neg h1, if_neg h2]

theorem State.cabRequest_invalid (s : State) (code : Byte) (h : claimOf code = none) :
    s.cabRequest code = (s, answer .badValue) := by
  simp [State.cabRequest, h]

theorem State.cabRequest_notCab (s : State) (code : Byte) (claim : Bool) (hc : claimOf code = some claim)
    (h : s.straps.coachType.isCab = false) : s.cabRequest code = (s, answer .notCabType) := by
  simp [State.cabRequest, hc, h]

theorem State.cabRequest_claimed (s : State) (code : Byte) (hc : claimOf code = some true)
    (h : s.straps.coachType.isCab = true) (hown : s.cc.ownCab ≠ .noClaim) :
    s.cabRequest code = (s, answer .alreadyClaimed) := by
  simp [State.cabRequest, hc, h, hown]

theorem State.cabRequest_notClaimed (s : State) (code : Byte) (hc : claimOf code = some false)
    (h : s.straps.coachType.isCab = true) (hown : s.cc.ownCab = .noClaim) :
    s.cabRequest code = (s, answer .notClaimed) := by
  simp [State.cabRequest, hc, h, hown]

/-- A claim without one, or a release of one, by a cab type is accepted. -/
theorem State.cabRequest_accepted (s : State) (code : Byte) (claim : Bool) (hc : claimOf code = some claim)
    (h : s.straps.coachType.isCab = true) (hown : claim = true ↔ s.cc.ownCab = .noClaim) :
    s.cabRequest code = (s.acceptCab claim, answer .ok) := by
  cases claim <;> simp_all [State.cabRequest]

/-- Outside SOLO an accepted request changes the claim and starts a formation (R21). -/
theorem State.acceptCab_starts (s : State) (claim : Bool) (h : s.cc.formState ≠ .solo) :
    s.acceptCab claim =
      (s.setCc { s.cc with ownCab := if claim then .requested else .noClaim }).startFormation .cab := by
  unfold State.acceptCab
  cases claim <;> cases hs : s.cc.formState
  case false.solo | true.solo => exact absurd hs h
  all_goals rfl

/-- In SOLO an accepted claim is ACTIVE in the table at once, and granted (R38). -/
theorem State.acceptCab_claim_solo (s : State) (h : s.cc.formState = .solo) :
    s.acceptCab true = ((s.setCc { s.cc with ownCab := .active }).writeSoloTable).post .cabGranted := by
  simp [State.acceptCab, h]

theorem State.acceptCab_release_solo (s : State) (h : s.cc.formState = .solo) :
    s.acceptCab false = (s.setCc { s.cc with ownCab := .noClaim }).writeSoloTable := by
  simp [State.acceptCab, h]

theorem soloMember_active (st : Straps) (r : RollRecord) (h : st.coachType.isCab = true) :
    soloMember st r .active = Member.ofRecord r st.cabEnd .active := by
  simp [soloMember, h]

theorem exec_cab_refused (s : State) (code : Byte) (i : Instr) (r : Result) (hp : s.portOpen)
    (hi : i = .cabClaim code ∨ i = .cabRelease code) (h : s.cabRequest code = (s, answer r)) :
    exec i s = .next (s.answered [r.code]) := by
  rw [exec_cab_open s code i hp hi, h]
  rfl

theorem exec_cab_accepted (s : State) (code : Byte) (i : Instr) (claim : Bool) (hp : s.portOpen)
    (hi : i = .cabClaim code ∨ i = .cabRelease code) (h : s.cabRequest code = (s.acceptCab claim, answer .ok)) :
    exec i s = .next ((s.acceptCab claim).setPort
      ((s.acceptCab claim).port.prepare (s.acceptCab claim).now [0x00])) := by
  rw [exec_cab_open s code i hp hi, h]
  rfl

/-- An accepted request outside SOLO: the claim as requested, and a formation with reason CAB. -/
theorem State.acceptCab_started (s : State) (claim : Bool) (h : s.cc.formState ≠ .solo) :
    (s.acceptCab claim).cc.ownCab = (if claim then .requested else .noClaim)
      ∧ startedFormation s (s.acceptCab claim) .cab := by
  rw [s.acceptCab_starts claim h]
  refine ⟨?_, State.startFormation_started _ .cab⟩
  rw [State.startFormation_cc]
  rfl

/-- Settles O27: the checks of R173 in their order, then the claim in SOLO and outside it. -/
theorem cabRequestsAreChecked : Obligations.CabRequestsAreChecked := by
  intro s code i hp hi
  refine ⟨?invalid, ?notCab, ?claimed, ?notClaimed, ?claim, ?release⟩
  case invalid =>
    intro h1 h2
    exact exec_cab_refused s code i .badValue hp hi (s.cabRequest_invalid code (claimOf_invalid code h1 h2))
  case notCab =>
    intro hcode hcab
    refine exec_cab_refused s code i .notCabType hp hi ?_
    obtain rfl | rfl := hcode
    · exact s.cabRequest_notCab _ true claimOf_claim hcab
    · exact s.cabRequest_notCab _ false claimOf_release hcab
  case claimed =>
    rintro hcab rfl hown
    exact exec_cab_refused s _ i .alreadyClaimed hp hi (s.cabRequest_claimed _ claimOf_claim hcab hown)
  case notClaimed =>
    rintro hcab rfl hown
    exact exec_cab_refused s _ i .notClaimed hp hi (s.cabRequest_notClaimed _ claimOf_release hcab hown)
  case claim =>
    rintro hcab rfl hown
    have accepted := s.cabRequest_accepted _ true claimOf_claim hcab (by simp [hown])
    refine ⟨_, exec_cab_accepted s _ i true hp hi accepted, rfl, s.acceptCab_started true, fun hsolo => ?_⟩
    rw [s.acceptCab_claim_solo hsolo]
    refine ⟨rfl, hsolo, rfl, rfl, rfl, rfl, ?_⟩
    exact congrArg (fun m : Member => [(m.id, m.orientation, m.cab)]) (soloMember_active _ _ hcab)
  case release =>
    rintro hcab rfl hown
    have accepted := s.cabRequest_accepted _ false claimOf_release hcab (by simp [hown])
    refine ⟨_, exec_cab_accepted s _ i false hp hi accepted, rfl, ?_, fun h => (s.acceptCab_started false h).2,
      fun hsolo => ?_⟩
    · by_cases hsolo : s.cc.formState = .solo
      · rw [s.acceptCab_release_solo hsolo]
        rfl
      · exact (s.acceptCab_started false hsolo).1
    · rw [s.acceptCab_release_solo hsolo]
      exact ⟨hsolo, rfl, rfl, rfl, rfl, rfl⟩

end Sys2Proof.Machine
end

section
/-! The settled statements about sightings and the take of a REFORM (R15, R17, R18, R30, R80, R82). -/

namespace Sys2Proof.Machine

/-! ### Number comparison (R15) -/

theorem isNewer_eq_true_iff (a b : FormationNumber) :
    isNewer a b = true ↔ 1 ≤ (a - b).toNat ∧ (a - b).toNat ≤ 32767 := by
  simp [isNewer]

/-- No number is newer than itself. -/
theorem isNewer_self (a : FormationNumber) : isNewer a a = false := by
  simp [isNewer]

/-! ### Sightings (R17) -/

theorem State.sight_newer (s : State) (f : Frame) (h : isNewer f.number s.cc.number = true) :
    s.sight f = s.adopt f.number f.leftReason := by
  rw [State.sight, if_pos h]

theorem State.sight_equal (s : State) (f : Frame) (h : f.number = s.cc.number) :
    s.sight f = s.sightEqual f.sender := by
  rw [State.sight, h, isNewer_self, if_neg (by simp), if_pos rfl]

/-- Outside FORMED a sighting of an equal number has no effect. -/
theorem State.sightEqual_notFormed (s : State) (sender : NodeId) (h : s.cc.formState ≠ .formed) :
    s.sightEqual sender = s := by
  rw [State.sightEqual, s.isFormed_eq_false_iff.mpr h]
  rfl

theorem State.hearMember_number (s : State) (id : NodeId) (p : Nat) :
    (s.hearMember id p).cc.number = s.cc.number := by
  unfold State.hearMember
  dsimp only
  split <;> rfl

/-- A sighting of an equal number keeps the number, or is that of a stranger in FORMED (R22). -/
theorem State.sightEqual_cases (s : State) (sender : NodeId) :
    (s.sightEqual sender).cc.number = s.cc.number
      ∨ (s.cc.formState = .formed ∧ s.sightEqual sender = s.startFormation .stranger) := by
  by_cases hf : s.cc.formState = .formed
  · unfold State.sightEqual
    rw [if_pos (s.isFormed_eq_true_iff.mpr hf)]
    split
    case h_1 p hp => exact .inl (s.hearMember_number sender p)
    case h_2 =>
      split
      case isTrue => exact .inl rfl
      case isFalse => exact .inr ⟨hf, rfl⟩
  · rw [s.sightEqual_notFormed sender hf]
    exact .inl rfl

/-! ### The receive queue and the LHU (R82 to R84, R88) -/

/-- A rise of the occupancy never reaches the REFORM slot. -/
theorem State.noteRise_reformSlot (s : State) (before after : Nat) :
    (s.noteRise before after).lau.reformSlot = s.lau.reformSlot := by
  unfold State.noteRise
  split <;> rfl

/-- Everything the queueing of a frame can do: join the tail and let the LHU read the occupancy, or the full policy
with its count. -/
theorem State.enqueue_cases (s : State) (f : Frame) :
    (∃ lhu lau, s.enqueue f = ((s.setRxp { s.rxp with queue := s.rxp.queue ++ [f] }).setLhu lhu).setLau lau
        ∧ lau.reformSlot = s.lau.reformSlot)
      ∨ (Config.rxqSize ≤ s.rxp.queue.length
        ∧ s.enqueue f =
          (s.setRxp { s.rxp with queue := fullPolicy s.straps.rxPolicy s.rxp.queue f }).count .receiveDrops) := by
  by_cases room : s.rxp.queue.length < Config.rxqSize
  · have queued : s.enqueue f = (s.setRxp { s.rxp with queue := s.rxp.queue ++ [f] }).noteRise
        s.rxp.queue.length (s.rxp.queue.length + 1) := if_pos room
    have slot := State.noteRise_reformSlot (s.setRxp { s.rxp with queue := s.rxp.queue ++ [f] })
      s.rxp.queue.length (s.rxp.queue.length + 1)
    obtain ⟨lhu, lau, risen⟩ := State.noteRise_eq (s.setRxp { s.rxp with queue := s.rxp.queue ++ [f] })
      s.rxp.queue.length (s.rxp.queue.length + 1)
    rw [risen] at queued slot
    exact .inl ⟨lhu, lau, queued, slot⟩
  · exact .inr ⟨Nat.not_lt.mp room, if_neg room⟩

/-- What the queueing of a frame leaves. -/
theorem State.enqueue_frame (s : State) (f : Frame) :
    (s.enqueue f).cc = s.cc ∧ (s.enqueue f).lau.reformSlot = s.lau.reformSlot ∧ (s.enqueue f).endA = s.endA
      ∧ (s.enqueue f).endB = s.endB ∧ (s.enqueue f).dlc = s.dlc ∧ (s.enqueue f).otb = s.otb
      ∧ (s.enqueue f).pins = s.pins ∧ (s.enqueue f).rxp.receiving = s.rxp.receiving := by
  obtain ⟨lhu, lau, h, slot⟩ | ⟨-, h⟩ := s.enqueue_cases f
  · rw [h]
    exact ⟨rfl, slot, rfl, rfl, rfl, rfl, rfl, rfl⟩
  · rw [h]
    exact ⟨rfl, rfl, rfl, rfl, rfl, rfl, rfl, rfl⟩

/-- Below 16 entries a frame joins the tail (R82). -/
theorem State.enqueue_queue (s : State) (f : Frame) (room : s.rxp.queue.length < Config.rxqSize) :
    (s.enqueue f).rxp.queue = s.rxp.queue ++ [f] := by
  obtain ⟨lhu, lau, h, -⟩ | ⟨full, -⟩ := s.enqueue_cases f
  · rw [h]
    rfl
  · exact absurd room (Nat.not_lt.mpr full)

theorem Port.count_counter_other (p : Port) (i j : Nat) (h : i ≠ j) : (p.count i).counter j = p.counter j := by
  simp [Port.counter, List.getD_eq_getElem?_getD, List.getElem?_set_ne h]

/-- Queueing counts RECEIVE_DROPS alone (R83, R84). -/
theorem State.enqueue_counter (s : State) (f : Frame) (j : Nat) (h : Counter.receiveDrops.index ≠ j) :
    (s.enqueue f).port.counter j = s.port.counter j := by
  obtain ⟨lhu, lau, queued, -⟩ | ⟨-, dropped⟩ := s.enqueue_cases f
  · rw [queued]
    rfl
  · rw [dropped]
    exact Port.count_counter_other _ _ _ h

/-! ### FRAME_ARRIVAL (R78 to R80) -/

/-- The state in which a reception that has just ended is checked (R77). -/
def State.receptionEnded (s : State) : State :=
  ((s.setPins { s.pins with peerCarrier := false }).endCarrier).setRxp { s.rxp with receiving := false }

theorem exec_frameArrival_checked (s : State) (r : Reception) (f : Frame) (hr : s.inReset = false)
    (hc : s.pins.peerCarrier = true) (hrec : s.rxp.receiving = true) (hf : checkReception s.id r = some f) :
    exec (.frameArrival r) s = .next (s.receptionEnded.routeFrame f) := by
  have checked : checkReception s.receptionEnded.id r = some f := hf
  have arrived : s.receptionEnded.endReception r = s.receptionEnded.routeFrame f := by
    rw [State.endReception, checked]
  rw [exec_frameArrival, execFrameArrival, if_pos hc, State.inService_running _ _ (by simpa using hr), ← arrived]
  exact congrArg Host.Outcome.next (if_pos hrec)

/-- A frame of a newer number counts, is adopted, and then goes to the queue (R80). -/
theorem State.routeFrame_newer (s : State) (f : Frame) (hk : f.kind ≠ .hold)
    (h : isNewer f.number s.cc.number = true) :
    s.routeFrame f = ((s.count .framesReceived).adopt f.number f.leftReason).enqueue f := by
  rw [State.routeFrame, if_neg hk, if_pos (by simp [accepts, h]), State.acceptFrame,
    State.sight_newer (s.count .framesReceived) f h]

/-- Settles O21: the sighting adopts, and the frame is queued after it. -/
theorem newerNumberIsAdopted : Obligations.NewerNumberIsAdopted := by
  intro s r f hr hc hrec hf hk h1 h2
  refine ⟨_, exec_frameArrival_checked s r f hr hc hrec hf, ?_⟩
  rw [s.receptionEnded.routeFrame_newer f hk ((isNewer_eq_true_iff _ _).mpr ⟨h1, h2⟩)]
  generalize ht : s.receptionEnded.count .framesReceived = t
  obtain ⟨hcc, hslot, hA, hB, hdlc, hotb, hpins, hreceiving⟩ := (t.adopt f.number f.leftReason).enqueue_frame f
  have queue : (t.adopt f.number f.leftReason).rxp.queue = s.rxp.queue := by rw [State.adopt_rxp, ← ht]; rfl
  rw [hcc, hslot, hA, hB, hdlc, hotb, hpins, hreceiving, State.adopt_cc, State.adopt_lau, State.adopt_endA,
    State.adopt_endB, State.adopt_dlc, State.adopt_otb, State.adopt_pins, State.adopt_rxp, ← queue, ← ht]
  refine ⟨rfl, rfl, rfl, rfl, rfl, rfl, rfl, rfl, rfl, fun hlen => ?counts, fun hroom => ?queues⟩
  case counts =>
    rw [State.enqueue_counter _ f 1 (by decide), Port.counter, State.adopt_portCounters]
    exact State.count_counter s.receptionEnded .framesReceived hlen
  case queues => exact State.enqueue_queue _ f hroom

/-! ### The take of a REFORM (R30, R86) -/

theorem Frame.hasCloseAction_reform (f : Frame) (h : f.kind = .reform) : f.hasCloseAction = false := by
  simp [Frame.hasCloseAction, h]

theorem State.consume_reform (s : State) (f : Frame) (h : f.kind = .reform) : s.consume f = s := by
  rw [State.consume, h]

theorem State.noteFall_cc (s : State) (after : Nat) : (s.noteFall after).cc = s.cc := by
  obtain ⟨lhu, lau, h⟩ := s.noteFall_eq after
  rw [h]
  rfl

/-- Settles O41: the take hands a REFORM on without effect, and its sighting compares numbers. -/
theorem reformTakenHasNoEffect : Obligations.ReformTakenHasNoEffect := by
  refine ⟨State.consume_reform, ?notFormed, ?equal, ?take, ?newer⟩
  case notFormed =>
    intro s f _ hn hf
    rw [s.sight_equal f hn, s.sightEqual_notFormed f.sender hf]
  case equal =>
    intro s f _ hn
    rw [s.sight_equal f hn]
    obtain same | ⟨hf, hs⟩ := s.sightEqual_cases f.sender
    · exact .inl same
    · exact .inr ⟨hf, hs ▸ s.startFormation_started .stranger⟩
  case take =>
    intro s f rest hr hq hk hb w
    have free : s.consumerBusy f.kind = false := by rw [hk]; exact hb
    have number : w.cc.number = s.cc.number := congrArg Cc.number (State.noteFall_cc _ _)
    rw [exec_frameTake, execFrameTake_free s f rest hr hq free, State.takeHead]
    refine ⟨fun hn => ?_, fun hn => ?_⟩
    · rw [if_pos (.inl (hn.trans number.symm)), State.consume_reform _ f hk]
    · rw [if_neg (not_or.mpr ⟨fun h => hn (h.trans number), by simp [f.hasCloseAction_reform hk]⟩)]
  case newer =>
    intro s f _ hn
    rw [s.sight_newer f hn, State.adopt_cc]
    rfl

end Sys2Proof.Machine
end

section
/-! The settled statements about the repeats of the ROLL and the TALLY and the gather timeout (R25, R28, R29, R31,
R54, R62). -/

namespace Sys2Proof.Machine

/-! ### The own record in the candidate table (R25, R26) -/

/-- A record that is put into a candidate table is in it. -/
theorem mem_putRecord (rs : List RollRecord) (r : RollRecord) : r ∈ putRecord rs r := by
  unfold putRecord
  split
  case isTrue h =>
    obtain ⟨x, hx, hid⟩ := List.any_eq_true.mp h
    exact List.mem_map.mpr ⟨x, hx, if_pos (by simpa using hid)⟩
  case isFalse => simp

/-- The closure test writes tGATHER and the computation alone (R27, R28). -/
theorem State.testClosure_eq (s : State) :
    ∃ g o, s.testClosure = s.setCc { s.cc with tGather := g, ordering := o } := by
  unfold State.testClosure
  split
  · exact ⟨_, _, rfl⟩
  · exact ⟨s.cc.tGather, s.cc.ordering, rfl⟩

/-- The own record built again is put into the candidate table in GATHER before a computation runs, and nowhere
else (R25; log entry 16). -/
theorem State.renewOwnRecord_eq (s : State) :
    ∃ rs g o, s.renewOwnRecord = s.setCc { s.cc with candidates := rs, tGather := g, ordering := o }
      ∧ (s.cc.formState = .tally → rs = s.cc.candidates)
      ∧ (s.cc.formState = .gather → s.cc.ordering = none → s.ownRecord ∈ rs) := by
  unfold State.renewOwnRecord
  split
  case isTrue h =>
    obtain ⟨g, o, hc⟩ := s.insertOwnRecord.testClosure_eq
    refine ⟨_, g, o, hc, fun ht => ?_, fun _ _ => mem_putRecord _ _⟩
    exact absurd (h.1.symm.trans ht) nofun
  case isFalse h =>
    refine ⟨s.cc.candidates, s.cc.tGather, s.cc.ordering, rfl, fun _ => rfl, fun hg ho => ?_⟩
    exact absurd ⟨hg, by simp [ho]⟩ h

/-! ### The repeats (R25, R31) -/

theorem exec_rollRepeat_due (s : State) (t : Time) (hr : s.inReset = false)
    (hf : s.cc.formState = .gather ∨ s.cc.formState = .tally) (ht : s.cc.rollRepeat = some t) :
    exec .rollRepeat s = .next ((s.advanceTo t).restartRoll.submitRoll.renewOwnRecord) := by
  have occasion : s.rollOccasion = some t := by
    obtain hf | hf := hf <;> rw [State.rollOccasion, hf, ← ht]
  rw [exec_rollRepeat, execRollRepeat, occasion, State.onOccasion_some _ _ _ hr]

theorem exec_tallyRepeat_due (s : State) (t : Time) (o : CandidateOrder) (hr : s.inReset = false)
    (hf : s.cc.formState = .tally) (ht : s.cc.tallyRepeat = some t) (ho : s.cc.candidateOrder = some o) :
    exec .tallyRepeat s = .next
      (((s.advanceTo t).setCc { s.cc with tallyRepeat := some (t + Config.tTREP) }).submitTally o.tally) := by
  have occasion : s.tallyRepeatOccasion = some t := by rw [State.tallyRepeatOccasion, if_pos hf, ht]
  rw [exec_tallyRepeat, execTallyRepeat, occasion, State.onOccasion_some _ _ _ hr, State.advanceTo_cc, ho, ht]
  rfl

/-- Settles O22: each repeat restarts its timer and submits its frame to a store that has a place for it. -/
theorem rollAndTallyRepeats : Obligations.RollAndTallyRepeats := by
  refine ⟨?roll, ?tally⟩
  case roll =>
    intro s t hr hf ht sound
    refine ⟨_, exec_rollRepeat_due s t hr hf ht, ?_⟩
    obtain ⟨rs, g, o, renewed, kept, inserted⟩ := ((s.advanceTo t).restartRoll.submitRoll).renewOwnRecord_eq
    rw [renewed]
    have restarted : s.cc.rollRepeat.map (· + Config.tROLL) = some (t + Config.tROLL) := by rw [ht]; rfl
    have queued := sound.mem_submitConsist (s.rollFrame s.cc.number) (.inl rfl)
    exact ⟨restarted, rfl, rfl, ⟨_, queued, rfl, rfl, rfl, rfl, rfl⟩, kept, inserted, rfl, rfl, rfl, rfl, rfl,
      rfl, rfl, rfl, rfl⟩
  case tally =>
    intro s t o hr hf ht ho sound
    have queued := sound.mem_submitConsist (s.buildFrame .tally (tallyPayload o.tally)) (.inr rfl)
    exact ⟨_, exec_tallyRepeat_due s t o hr hf ht ho, rfl, ⟨_, queued, rfl, rfl, rfl, rfl, rfl⟩, rfl, rfl, rfl,
      rfl, rfl, rfl, rfl, rfl, rfl⟩

/-! ### The gather timeout (R29) -/

/-- Settles O23: GATHER_TIMEOUT at its occasion starts the computation with PARTIAL set. -/
theorem gatherTimeoutOrdersFragment : Obligations.GatherTimeoutOrdersFragment := by
  intro s t hr hf ht
  have occasion : s.gatherOccasion = some t := by rw [State.gatherOccasion, if_pos hf, ht]
  rw [exec_gatherTimeout, execGatherTimeout, occasion, State.onOccasion_some _ _ _ hr]
  rfl

end Sys2Proof.Machine
end

section
/-! SUPPORT. What a failed formation, SOLO entry and FORMED entry write block by block (R35 to R37, R49, R50, R143,
R165). -/

namespace Sys2Proof.Machine

/-! ### SOLO entry (R37) -/

/-- An own claim is ACTIVE in a consist of one (R37 step 3). -/
theorem State.soloCab_cc (s : State) :
    s.soloCab.cc = { s.cc with ownCab := if s.cc.ownCab = .noClaim then .noClaim else .active } := by
  unfold State.soloCab
  split
  case h_1 h => rw [if_pos h, ← h]
  case h_2 h => rw [if_neg (by simp [h]), ← h]
  case h_3 h => rw [if_neg (by simp [h])]; rfl

theorem State.soloCab_portCounters (s : State) : s.soloCab.port.counters = s.port.counters := by
  unfold State.soloCab
  split
  case h_3 => exact State.post_portCounters _ _
  all_goals rfl

/-- The CC's values after SOLO entry; `State.enterSolo_table` says what its table holds. -/
theorem State.enterSolo_cc (s : State) :
    s.enterSolo.cc =
      { s.cc with
        formState := .solo
        rollRepeat := none
        tallyRepeat := none
        tGather := none
        tTally := none
        candidates := s.cc.candidates.filter (fun r => r.id = s.id)
        earlyTallies := []
        agreement := []
        candidateOrder := none
        ownCab := if s.cc.ownCab = .noClaim then .noClaim else .active
        table := s.enterSolo.cc.table } := by
  unfold State.enterSolo
  dsimp only
  rw [State.stagger_cc, State.post_cc, State.writeSoloTable, State.setCc_cc, State.soloCab_cc]
  rfl

/-- The SOLO table holds the own entry alone, is PARTIAL and not STALE (R37 steps 4 and 5). -/
theorem State.enterSolo_table (s : State) :
    s.enterSolo.cc.table.entries.map (fun e => e.member.id) = [s.id] ∧ s.enterSolo.cc.table.partialFlag = true
      ∧ s.enterSolo.cc.table.stale = false := by
  refine ⟨?_, rfl, rfl⟩
  unfold State.enterSolo
  dsimp only
  rw [State.stagger_cc, State.post_cc, State.writeSoloTable, State.setCc_cc]
  have own (st : Straps) (r : RollRecord) (cab : OwnCab) : (soloMember st r cab).id = r.id := by
    unfold soloMember
    split <;> rfl
  simp [own, State.ownRecord_id, State.id]

theorem State.enterSolo_portCounters (s : State) : s.enterSolo.port.counters = s.port.counters := by
  unfold State.enterSolo
  dsimp only
  rw [State.stagger_port, State.post_portCounters, State.writeSoloTable_port, State.soloCab_portCounters]
  rfl

/-! ### A failed formation (R35) -/

/-- The state in which a failure has been counted. -/
def State.failCounted (s : State) : State :=
  (s.count .failedFormations).setCc { s.cc with failedCount := s.cc.failedCount + 1 }

theorem State.failFormation_starts (s : State) (r : ReformReason) (h : s.cc.failedCount + 1 < Config.failLimit) :
    s.failFormation r = s.failCounted.startFormation r :=
  if_neg (Nat.not_le.mpr h)

theorem State.failFormation_solo (s : State) (r : ReformReason) (h : Config.failLimit ≤ s.cc.failedCount + 1) :
    s.failFormation r = s.failCounted.enterSolo :=
  if_pos h

theorem State.failFormation_portCounters (s : State) (r : ReformReason) :
    (s.failFormation r).port.counters = s.port.counters.set 10 (s.port.counter 10 + 1) := by
  have counted : s.failCounted.port.counters = s.port.counters.set 10 (s.port.counter 10 + 1) :=
    s.count_portCounters .failedFormations
  obtain h | h := Nat.lt_or_ge (s.cc.failedCount + 1) Config.failLimit
  · rw [s.failFormation_starts r h, State.startFormation_portCounters, counted]
  · rw [s.failFormation_solo r h, State.enterSolo_portCounters, counted]

/-- A failure in TALLY is one more in the failed count, whether the node re-forms or enters SOLO. -/
theorem State.failFormation_failedCount (s : State) (r : ReformReason) (hf : s.cc.formState = .tally) :
    (s.failFormation r).cc.failedCount = s.cc.failedCount + 1 := by
  obtain h | h := Nat.lt_or_ge (s.cc.failedCount + 1) Config.failLimit
  · have tally : s.failCounted.cc.formState ≠ .solo := fun hs => nomatch hf.symm.trans hs
    rw [s.failFormation_starts r h, State.startFormation_cc]
    exact if_neg tally
  · rw [s.failFormation_solo r h, State.enterSolo_cc]
    rfl

/-- Below four failures the node starts a formation (R35). -/
theorem State.failFormation_started (s : State) (r : ReformReason) (h : s.cc.failedCount + 1 < Config.failLimit) :
    startedFormation s (s.failFormation r) r := by
  rw [s.failFormation_starts r h]
  exact State.startFormation_started s.failCounted r

/-! ### FORMED entry (R36, R49, R50) -/

theorem State.followCab_cc (s : State) :
    s.followCab.cc = { s.cc with ownCab := (cabAfterCommit s.cc.ownCab s.ownEntryCab).1 } := by
  unfold State.followCab
  dsimp only
  split <;> rfl

/-- The notice of a commit is posted while there is room (R50). -/
theorem State.followCab_notices (s : State) (h : s.port.notices.length < Config.noticeCap) :
    s.followCab.port.notices = s.port.notices ++ (cabAfterCommit s.cc.ownCab s.ownEntryCab).2.toList := by
  unfold State.followCab
  dsimp only
  split
  case h_1 n hn =>
    rw [hn]
    exact State.post_notices _ n h
  case h_2 hn =>
    rw [hn]
    exact (List.append_nil _).symm

theorem positionWhere_map {α β : Type} (f : α → β) (test : β → Bool) (l : List α) :
    positionWhere test (l.map f) = positionWhere (fun x => test (f x)) l := by
  induction l with
  | nil => rfl
  | cons x xs ih => rw [List.map_cons, positionWhere, positionWhere, ih]

theorem positionWhere_pos {α : Type} (test : α → Bool) (l : List α) (p : Nat)
    (h : positionWhere test l = some p) : 1 ≤ p := by
  cases l with
  | nil => nomatch h
  | cons x xs =>
    rw [positionWhere] at h
    split at h
    case isTrue => exact Nat.le_of_eq (Option.some.inj h)
    case isFalse =>
      obtain ⟨q, -, rfl⟩ := Option.map_eq_some_iff.mp h
      exact Nat.le_add_left 1 q

/-- The committed table has the positions of the candidate order (R49). -/
theorem commitTable_positionOf (o : CandidateOrder) (now : Time) (id : NodeId) :
    (commitTable o now).positionOf id = o.positionOf id :=
  positionWhere_map _ _ _

theorem commitTable_size (o : CandidateOrder) (now : Time) : (commitTable o now).size = o.members.length :=
  List.length_map _

theorem commitTable_entryAt (o : CandidateOrder) (now : Time) (p : Nat) (hp : 1 ≤ p) :
    (commitTable o now).entryAt p
      = o.members[p - 1]?.map (fun m => { member := m, silent := false, lastHeard := now }) := by
  rw [ConsistTable.entryAt, if_neg (Nat.ne_of_gt hp), commitTable, List.getElem?_map]

theorem State.ownPosition_committed (s : State) (o : CandidateOrder) (now : Time) (p : Nat)
    (ht : s.cc.table = commitTable o now) (hp : o.positionOf s.id = some p) : s.ownPosition = p := by
  rw [State.ownPosition, ht, commitTable_positionOf, hp, Option.getD_some]

/-- The cab state of the own entry is that of the own member of the candidate order (R49). -/
theorem State.ownEntryCab_committed (s : State) (o : CandidateOrder) (now : Time) (p : Nat) (m : Member)
    (ht : s.cc.table = commitTable o now) (hp : o.positionOf s.id = some p) (hm : o.members[p - 1]? = some m) :
    s.ownEntryCab = m.cab := by
  rw [State.ownEntryCab, s.ownPosition_committed o now p ht hp, ht,
    commitTable_entryAt o now p (positionWhere_pos _ _ p hp), hm]
  rfl

/-- FORMED entry with its parts in order (R36, R143, R165). -/
theorem State.enterFormed_eq (s : State) (o : CandidateOrder) (p : Nat) (hp : o.positionOf s.id = some p) :
    s.enterFormed o =
      ((((s.setCc (s.cc.commit o s.now)).followCab).post
        (.formed s.cc.number o.members.length p o.partialFlag)).dcuFormedEntry).hsuFormedEntry := by
  have table : (s.setCc (s.cc.commit o s.now)).followCab.cc.table = commitTable o s.now := by
    rw [State.followCab_cc]
    rfl
  have number : (s.setCc (s.cc.commit o s.now)).followCab.cc.number = s.cc.number := by
    rw [State.followCab_cc]
    rfl
  have own : (s.setCc (s.cc.commit o s.now)).followCab.ownPosition = p :=
    State.ownPosition_committed _ o s.now p table (by simpa [State.id] using hp)
  unfold State.enterFormed
  dsimp only
  rw [table, number, own, commitTable_size]
  rfl

theorem State.enterFormed_cc (s : State) (o : CandidateOrder) (p : Nat) (hp : o.positionOf s.id = some p) :
    (s.enterFormed o).cc =
      { s.cc.commit o s.now with
        ownCab := (cabAfterCommit s.cc.ownCab (s.setCc (s.cc.commit o s.now)).ownEntryCab).1 } := by
  rw [s.enterFormed_eq o p hp, State.hsuFormedEntry_cc, State.dcuFormedEntry_cc, State.post_cc, State.followCab_cc]
  rfl

/-! ### The DCU and the HSU begin a formation (R143, R165) -/

/-- The DCU forgets the door status of others and reports its own (R143). -/
theorem State.dcuFormedEntry_dcu (s : State) :
    s.dcuFormedEntry.dcu.doorStatus = []
      ∧ s.dcuFormedEntry.dcu.doorstatTimer = some (s.now + Config.tDSTAT) := by
  unfold State.dcuFormedEntry State.submitDoorstat
  rw [State.setDcu_dcu, State.evalDoorsSecure_dcu, State.evalDoorsSecure_now]
  exact ⟨rfl, rfl⟩

/-- A trigger writes the computation and its re-run mark alone (R156). -/
theorem State.triggerAllocation_hsu (s : State) :
    ∃ a r, s.triggerAllocation.hsu = { s.hsu with alloc := a, rerunPending := r } := by
  unfold State.triggerAllocation
  split
  · split
    · exact ⟨s.hsu.alloc, true, rfl⟩
    · exact ⟨_, s.hsu.rerunPending, rfl⟩
  · exact ⟨s.hsu.alloc, s.hsu.rerunPending, rfl⟩

/-- The HSU forgets the bids, starts settle and bids; the applied grant and its source stay (R158, R165). -/
theorem State.hsuFormedEntry_hsu (s : State) :
    s.hsuFormedEntry.hsu.bids = []
      ∧ s.hsuFormedEntry.hsu.settle = (if s.cc.table.size = 1 then none else some (s.now + Config.tSETTLE))
      ∧ s.hsuFormedEntry.hsu.bidTimer = some (s.now + Config.tBID)
      ∧ s.hsuFormedEntry.hsu.source = s.hsu.source ∧ s.hsuFormedEntry.hsu.applied = s.hsu.applied := by
  unfold State.hsuFormedEntry
  dsimp only
  generalize hv : ((s.setHsu { s.hsu with bids := [] }).startSettle) = v
  obtain ⟨a, r, h⟩ := ((v.stagger v.ownPosition v.cc.table.size).submitHeatbid).triggerAllocation_hsu
  rw [h, ← hv]
  exact ⟨rfl, rfl, rfl, rfl, rfl⟩

theorem State.enterFormed_dcu (s : State) (o : CandidateOrder) (p : Nat) (hp : o.positionOf s.id = some p) :
    (s.enterFormed o).dcu.doorStatus = []
      ∧ (s.enterFormed o).dcu.doorstatTimer = some (s.now + Config.tDSTAT) := by
  rw [s.enterFormed_eq o p hp, State.hsuFormedEntry_dcu]
  obtain ⟨doorStatus, timer⟩ := State.dcuFormedEntry_dcu
    ((s.setCc (s.cc.commit o s.now)).followCab.post (.formed s.cc.number o.members.length p o.partialFlag))
  rw [doorStatus, timer, State.post_now, State.followCab_now]
  exact ⟨rfl, rfl⟩

theorem State.enterFormed_hsu (s : State) (o : CandidateOrder) (p : Nat) (hp : o.positionOf s.id = some p) :
    (s.enterFormed o).hsu.bids = []
      ∧ (s.enterFormed o).hsu.settle = (if o.members.length = 1 then none else some (s.now + Config.tSETTLE))
      ∧ (s.enterFormed o).hsu.bidTimer = some (s.now + Config.tBID)
      ∧ (s.enterFormed o).hsu.source = s.hsu.source ∧ (s.enterFormed o).hsu.applied = s.hsu.applied := by
  generalize hv : ((s.setCc (s.cc.commit o s.now)).followCab.post
    (.formed s.cc.number o.members.length p o.partialFlag)).dcuFormedEntry = v
  have entered : s.enterFormed o = v.hsuFormedEntry := by rw [s.enterFormed_eq o p hp, hv]
  have now : v.now = s.now := by simp [← hv]
  have hsu : v.hsu = s.hsu := by simp [← hv]
  have size : v.cc.table.size = o.members.length := by
    rw [← hv, State.dcuFormedEntry_cc, State.post_cc, State.followCab_cc]
    exact commitTable_size o s.now
  obtain ⟨bids, settle, bidTimer, source, applied⟩ := v.hsuFormedEntry_hsu
  rw [entered, bids, settle, bidTimer, source, applied, now, hsu, size]
  exact ⟨rfl, rfl, rfl, rfl, rfl⟩

/-! ### The notices of FORMED entry (R36, R50) -/

/-- A post only adds to the queue. -/
theorem State.post_notices_append (s : State) (n : Notice) :
    ∃ more, (s.post n).port.notices = s.port.notices ++ more := by
  by_cases h : s.port.notices.length < Config.noticeCap
  · exact ⟨[n], s.post_notices n h⟩
  · refine ⟨[], ?_⟩
    rw [s.post_eq, s.port.post_full n (Nat.not_lt.mp h), List.append_nil]
    rfl

theorem State.evalDoorsSecure_notices_append (s : State) :
    ∃ more, s.evalDoorsSecure.port.notices = s.port.notices ++ more := by
  unfold State.evalDoorsSecure
  split
  case isTrue => exact ⟨[], (List.append_nil _).symm⟩
  case isFalse => exact State.post_notices_append _ _

theorem cabAfterCommit_oneNotice (own : OwnCab) (entry : CabResult) :
    (cabAfterCommit own entry).2.toList.length ≤ 1 := by
  cases (cabAfterCommit own entry).2 <;> simp

/-- The cab notice comes before FORMED, while there is room for both (R36, R50). -/
theorem State.enterFormed_notices (s : State) (o : CandidateOrder) (p : Nat) (hp : o.positionOf s.id = some p)
    (h : s.port.notices.length + 1 < Config.noticeCap) :
    ∃ more, (s.enterFormed o).port.notices =
      s.port.notices
        ++ (cabAfterCommit s.cc.ownCab (s.setCc (s.cc.commit o s.now)).ownEntryCab).2.toList
        ++ [.formed s.cc.number o.members.length p o.partialFlag] ++ more := by
  have followed := (s.setCc (s.cc.commit o s.now)).followCab_notices (Nat.lt_of_succ_lt h)
  have room : (s.setCc (s.cc.commit o s.now)).followCab.port.notices.length < Config.noticeCap := by
    have one := cabAfterCommit_oneNotice s.cc.ownCab (s.setCc (s.cc.commit o s.now)).ownEntryCab
    rw [followed, List.length_append]
    exact Nat.lt_of_le_of_lt (Nat.add_le_add_left one _) h
  rw [s.enterFormed_eq o p hp, State.hsuFormedEntry_port, State.dcuFormedEntry, State.submitDoorstat_port]
  obtain ⟨more, evaluated⟩ := State.evalDoorsSecure_notices_append
    ((((s.setCc (s.cc.commit o s.now)).followCab).post
      (.formed s.cc.number o.members.length p o.partialFlag)).setDcu
        { (((s.setCc (s.cc.commit o s.now)).followCab).post
            (.formed s.cc.number o.members.length p o.partialFlag)).dcu with doorStatus := [] })
  refine ⟨more, evaluated.trans ?_⟩
  rw [State.setDcu_port, State.post_notices _ _ room, followed]
  rfl

end Sys2Proof.Machine
end

section
/-! The settled statements about the end of the ordering computation, the agreement of tallies and the tally timeout
(R28, R31, R35 to R37, R49, R50). -/

namespace Sys2Proof.Machine

/-! ### The agreement set (R31, R33) -/

theorem Cc.mem_agree (c : Cc) (p q : Nat) : q ∈ (c.agree p).agreement ↔ q ∈ c.agreement ∨ q = p := by
  unfold Cc.agree
  split
  case isTrue h =>
    have member : p ∈ c.agreement := by simpa using h
    exact ⟨.inl, fun hq => hq.elim id (fun hqp => hqp ▸ member)⟩
  case isFalse => simp

theorem Cc.agree_eq (c : Cc) (p : Nat) : c.agree p = { c with agreement := (c.agree p).agreement } := by
  unfold Cc.agree
  split <;> rfl

/-- One early tally of a member joins its position (R31 step 5). -/
def Cc.agreeTally (o : CandidateOrder) (c : Cc) (t : EarlyTally) : Cc :=
  match o.positionOf t.sender with
  | some p => c.agree p
  | none => c

theorem Cc.agreeEarly_eq (c : Cc) (o : CandidateOrder) :
    c.agreeEarly o = c.earlyTallies.foldl (Cc.agreeTally o) c := rfl

/-- The early tallies write the agreement set alone, and add the positions of their members. -/
theorem Cc.foldl_agreeTally (o : CandidateOrder) (ts : List EarlyTally) (c : Cc) :
    ∃ a, ts.foldl (Cc.agreeTally o) c = { c with agreement := a }
      ∧ ∀ q, q ∈ a ↔ q ∈ c.agreement ∨ ∃ t ∈ ts, o.positionOf t.sender = some q := by
  induction ts generalizing c with
  | nil => exact ⟨c.agreement, rfl, by simp⟩
  | cons t ts ih =>
    obtain ⟨a, folded, members⟩ := ih (Cc.agreeTally o c t)
    rw [List.foldl_cons, folded]
    unfold Cc.agreeTally at members ⊢
    cases hp : o.positionOf t.sender with
    | none =>
      refine ⟨a, rfl, fun q => ?_⟩
      simp only [hp] at members
      simp [members q, hp]
    | some p =>
      refine ⟨a, by simp only []; rw [Cc.agree_eq], fun q => ?_⟩
      simp only [hp] at members
      simp [members q, hp, Cc.mem_agree, or_assoc, eq_comm]

theorem Cc.agreed_iff (c : Cc) (o : CandidateOrder) :
    c.agreed o = true ↔ ∀ q, 1 ≤ q → q ≤ o.members.length → q ∈ c.agreement := by
  simp only [Cc.agreed, List.all_eq_true, List.mem_map, List.mem_range, List.contains_iff_mem]
  constructor
  · intro h q h1 hq
    exact h q ⟨q - 1, by omega, by omega⟩
  · rintro h q ⟨i, hi, rfl⟩
    exact h (i + 1) (Nat.le_add_left 1 i) hi

theorem earlyMismatch_iff (o : CandidateOrder) (ts : List EarlyTally) :
    earlyMismatch o ts = true ↔ ∃ t ∈ ts, (o.positionOf t.sender).isSome = true ∧ t.tally ≠ o.tally := by
  simp [earlyMismatch]

/-! ### TALLY entry (R31) -/

/-- The state in which TALLY entry compares the early tallies (R31 steps 1 to 4). -/
def State.inTally (s : State) (o : CandidateOrder) : State :=
  (s.setCc (s.cc.forTally o s.id s.now)).submitTally o.tally

theorem State.enterTally_mismatch (s : State) (o : CandidateOrder)
    (h : earlyMismatch o s.cc.earlyTallies = true) :
    s.enterTally o = (s.inTally o).failFormation .mismatch :=
  if_pos h

/-- The state of TALLY entry with an agreement set (R31 step 5). -/
def State.inTallyWith (s : State) (o : CandidateOrder) (a : List Nat) : State :=
  (s.inTally o).setCc { s.cc.forTally o s.id s.now with agreement := a, earlyTallies := [] }

theorem State.enterTally_match (s : State) (o : CandidateOrder) (p : Nat) (hp : o.positionOf s.id = some p)
    (h : earlyMismatch o s.cc.earlyTallies = false) :
    ∃ a, s.enterTally o = (s.inTallyWith o a).formIfAgreed o
      ∧ ∀ q, q ∈ a ↔ q = p ∨ ∃ t ∈ s.cc.earlyTallies, o.positionOf t.sender = some q := by
  obtain ⟨a, folded, members⟩ := Cc.foldl_agreeTally o s.cc.earlyTallies (s.cc.forTally o s.id s.now)
  refine ⟨a, ?_, fun q => (members q).trans (or_congr_left (by simp [Cc.forTally, hp]))⟩
  have agreed : (s.inTally o).cc.agreeEarly o = { s.cc.forTally o s.id s.now with agreement := a } :=
    (Cc.agreeEarly_eq _ o).trans folded
  have matching : ¬earlyMismatch o s.cc.earlyTallies = true := by simp [h]
  calc s.enterTally o
      = ((s.inTally o).setCc { (s.inTally o).cc.agreeEarly o with earlyTallies := [] }).formIfAgreed o :=
        if_neg matching
    _ = (s.inTallyWith o a).formIfAgreed o := by rw [agreed]; rfl

theorem State.formIfAgreed_short (s : State) (o : CandidateOrder)
    (h : ∃ q, 1 ≤ q ∧ q ≤ o.members.length ∧ q ∉ s.cc.agreement) : s.formIfAgreed o = s := by
  obtain ⟨q, h1, hq, hn⟩ := h
  exact if_neg fun all => hn ((Cc.agreed_iff _ _).mp all q h1 hq)

theorem State.formIfAgreed_all (s : State) (o : CandidateOrder)
    (h : ∀ q, 1 ≤ q → q ≤ o.members.length → q ∈ s.cc.agreement) : s.formIfAgreed o = s.enterFormed o :=
  if_pos ((Cc.agreed_iff _ _).mpr h)

/-! ### ORDERING_END (R28) -/

theorem exec_orderingEnd_abandoned (s : State) (x : Time) (rest : List Time) (hr : s.inReset = false)
    (h : s.cc.abandoned = x :: rest) :
    exec .orderingEnd s = .next (s.setCc { s.cc with abandoned := rest }) := by
  rw [exec_orderingEnd, execOrderingEnd, State.inService_running _ _ hr, State.endOrdering, h]

theorem exec_orderingEnd_live (s : State) (o : OrderingRun) (hr : s.inReset = false) (h : s.cc.abandoned = [])
    (ho : s.cc.ordering = some o) :
    exec .orderingEnd s = .next (s.enterTally (computeOrder o.chain o.partialFlag)) := by
  rw [exec_orderingEnd, execOrderingEnd, State.inService_running _ _ hr, State.endOrdering, h, ho]

/-- A mismatch fails the formation (R31 step 5, R35). -/
theorem State.enterTally_fails (s : State) (o : CandidateOrder)
    (h : earlyMismatch o s.cc.earlyTallies = true) :
    (s.enterTally o).cc.failedCount = s.cc.failedCount + 1
      ∧ (s.enterTally o).port.counters = s.port.counters.set 10 (s.port.counter 10 + 1)
      ∧ (s.cc.failedCount + 1 < Config.failLimit → startedFormation s (s.enterTally o) .mismatch)
      ∧ (Config.failLimit ≤ s.cc.failedCount + 1 →
          (s.enterTally o).cc.formState = .solo ∧ (s.enterTally o).cc.number = s.cc.number) := by
  rw [s.enterTally_mismatch o h]
  refine ⟨(s.inTally o).failFormation_failedCount .mismatch rfl, (s.inTally o).failFormation_portCounters .mismatch,
    (s.inTally o).failFormation_started .mismatch, fun h4 => ?_⟩
  rw [(s.inTally o).failFormation_solo .mismatch h4, State.enterSolo_cc]
  exact ⟨rfl, rfl⟩

/-- The five rows of R50, by the own member of the committed order. -/
theorem State.enterFormed_cab (s : State) (o : CandidateOrder) (p : Nat) (m : Member) (own : OwnCab)
    (notice : Option Notice) (hp : o.positionOf s.id = some p) (hm : o.members[p - 1]? = some m)
    (h : cabAfterCommit s.cc.ownCab m.cab = (own, notice)) :
    (s.enterFormed o).cc.ownCab = own
      ∧ (s.port.notices.length + 1 < Config.noticeCap → ∃ more, (s.enterFormed o).port.notices =
          s.port.notices ++ notice.toList ++ [.formed s.cc.number o.members.length p o.partialFlag] ++ more) := by
  have entry : (s.setCc (s.cc.commit o s.now)).ownEntryCab = m.cab :=
    State.ownEntryCab_committed _ o s.now p m rfl hp hm
  have notices := s.enterFormed_notices o p hp
  rw [entry, h] at notices
  rw [s.enterFormed_cc o p hp, entry, h]
  exact ⟨rfl, notices⟩

/-- Settles O24: an abandoned end, and a live one by mismatch, a missing position, or all positions. -/
theorem orderingEndEntersTally : Obligations.OrderingEndEntersTally := by
  refine ⟨exec_orderingEnd_abandoned, ?live⟩
  intro s run p hr hab hrun hp order agreed mismatch
  have live := exec_orderingEnd_live s run hr hab hrun
  refine ⟨fun differs => ⟨_, live, s.enterTally_fails order ((earlyMismatch_iff _ _).mpr differs)⟩, ?agrees⟩
  have matching (h : ¬mismatch) : earlyMismatch order s.cc.earlyTallies = false :=
    Bool.eq_false_iff.mpr (mt (earlyMismatch_iff _ _).mp h)
  refine ⟨fun h short => ?tally, fun h all => ?formed⟩
  case tally =>
    obtain ⟨a, entered, members⟩ := s.enterTally_match order p hp (matching h)
    obtain ⟨q, h1, hq, hn⟩ := short
    rw [State.formIfAgreed_short _ _ ⟨q, h1, hq, fun hm => hn ((members q).mp hm)⟩] at entered
    exact ⟨_, live.trans (congrArg Host.Outcome.next entered), rfl, rfl, members, rfl, rfl, rfl, rfl, rfl, rfl, rfl,
      rfl, rfl, rfl⟩
  case formed =>
    obtain ⟨a, entered, members⟩ := s.enterTally_match order p hp (matching h)
    rw [State.formIfAgreed_all _ _ fun q h1 hq => (members q).mpr (all q h1 hq)] at entered
    have cc := (s.inTallyWith order a).enterFormed_cc order p hp
    obtain ⟨doorStatus, doorstatTimer⟩ := (s.inTallyWith order a).enterFormed_dcu order p hp
    obtain ⟨bids, settle, bidTimer, source, applied⟩ := (s.inTallyWith order a).enterFormed_hsu order p hp
    refine ⟨_, live.trans (congrArg Host.Outcome.next entered), congrArg Cc.formState cc, congrArg Cc.table cc,
      congrArg Cc.earlyTallies cc, congrArg Cc.ordering cc, congrArg Cc.failedCount cc, congrArg Cc.tTally cc,
      congrArg Cc.tallyRepeat cc, congrArg Cc.rollRepeat cc, (congrArg Cc.number cc).trans rfl,
      (congrArg Cc.candidates cc).trans rfl, doorStatus, bids, settle, doorstatTimer, bidTimer, source, applied,
      State.enterFormed_endA _ _, State.enterFormed_endB _ _, State.enterFormed_dlc _ _,
      State.enterFormed_rxp _ _, State.enterFormed_lhu _ _, ?_⟩
    intro m hm after
    have row (own : OwnCab) (notice : Option Notice) (h : cabAfterCommit s.cc.ownCab m.cab = (own, notice)) :
        after own notice.toList := by
      obtain ⟨cab, notices⟩ := (s.inTallyWith order a).enterFormed_cab order p m own notice hp hm h
      exact ⟨cab, fun room => notices (Nat.succ_lt_succ room)⟩
    exact ⟨fun hown hcab => row .noClaim none (by rw [hown, hcab]; rfl),
      fun hown hcab => row .active (some .cabGranted) (by rw [hown, hcab]; rfl),
      fun hown hcab => row .active none (by rw [hown, hcab]; rfl),
      fun hown hcab => row .noClaim (some .cabDenied) (by rw [hown, hcab]; rfl),
      fun hown hcab => row .noClaim (some .cabLost) (by rw [hown, hcab]; rfl)⟩

/-! ### TALLY_TIMEOUT (R35) -/

/-- TALLY_TIMEOUT at its occasion fails the formation. -/
theorem exec_tallyTimeout_due (s : State) (t : Time) (hr : s.inReset = false) (hf : s.cc.formState = .tally)
    (ht : s.cc.tTally = some t) :
    exec .tallyTimeout s = .next ((s.advanceTo t).failFormation .timeout) := by
  have occasion : s.tallyOccasion = some t := by rw [State.tallyOccasion, if_pos hf, ht]
  rw [exec_tallyTimeout, execTallyTimeout, occasion, State.onOccasion_some _ _ _ hr]

/-- Settles O25: the failure is counted, and the fourth one enters SOLO. -/
theorem tallyTimeoutFails : Obligations.TallyTimeoutFails := by
  intro s t hr hf ht hlen
  refine ⟨_, exec_tallyTimeout_due s t hr hf ht, ?counted, State.failFormation_failedCount _ .timeout hf,
    State.failFormation_started (s.advanceTo t) .timeout, fun h4 => ?solo, by simp, by simp, by simp, by simp,
    by simp⟩
  case counted =>
    rw [Port.counter, State.failFormation_portCounters, List.getD_eq_getElem?_getD,
      List.getElem?_set_self (by rw [State.advanceTo_port, hlen]; decide)]
    rfl
  case solo =>
    rw [State.failFormation_solo (s.advanceTo t) .timeout h4]
    have cc := (s.advanceTo t).failCounted.enterSolo_cc
    obtain ⟨ids, partialFlag, stale⟩ := (s.advanceTo t).failCounted.enterSolo_table
    exact ⟨congrArg Cc.formState cc, (congrArg Cc.number cc).trans rfl, State.enterSolo_lau _,
      (congrArg Cc.ownCab cc).trans rfl, ids, partialFlag, stale, congrArg Cc.rollRepeat cc,
      congrArg Cc.tallyRepeat cc, congrArg Cc.tGather cc, congrArg Cc.tTally cc, congrArg Cc.earlyTallies cc,
      congrArg Cc.agreement cc⟩

end Sys2Proof.Machine
end

section
/-! The settled statement about the invariants at reset (R40, R57, R76, R94, R106, R127, R146, R168, R183). -/

namespace Sys2Proof.Machine

/-! ### The channels at reset (R106) -/

theorem Otb.atRelease_length : Otb.atRelease.channels.length = Config.channelCount := rfl

/-- No leaf channel runs at reset (R95, R106). -/
theorem Otb.atRelease_leafChannel (i : Nat) (c : Channel) (hi : i < Config.heaterBase)
    (h : Otb.atRelease.channel? i = some c) : c = Channel.atRelease 0 := by
  rw [Otb.channel?, Otb.atRelease, List.getElem?_append_left (by simpa using hi), List.getElem?_replicate,
    if_pos hi] at h
  exact (Option.some.inj h).symm

/-! ### The invariants of each block at reset -/

theorem State.reset_storeSound : State.reset.storeSound :=
  ⟨⟨Nat.zero_le _, Nat.zero_le _, Nat.zero_le _⟩, ⟨nofun, nofun, nofun, nofun, nofun⟩,
    ⟨Nat.zero_le _, Nat.zero_le _, Nat.zero_le _⟩⟩

theorem soundIds_alone (own : NodeId) : soundIds own [own] :=
  ⟨Nat.le_refl 1, Nat.succ_le_succ (Nat.zero_le 31), List.pairwise_singleton _ own, List.mem_singleton_self own⟩

/-- The table and the candidate table hold the own record alone (R40, R57). -/
theorem State.reset_consistSound : State.reset.consistSound :=
  ⟨⟨soundIds_alone State.reset.id, Nat.zero_le _⟩, soundIds_alone State.reset.id, nofun, nofun⟩

theorem State.reset_orderingSound : State.reset.orderingSound := nofun

theorem State.reset_leavesSound : State.reset.leavesSound := by
  refine ⟨Otb.atRelease_length, List.nodup_nil, nofun, fun i hi c hc => ?_⟩
  rw [Otb.atRelease_leafChannel i c hi hc]
  exact ⟨rfl, rfl⟩

/-- No heater channel is present with the straps of log entry 5. -/
theorem State.reset_heatSound : State.reset.heatSound :=
  ⟨Otb.atRelease_length, Nat.zero_le _, nofun, rfl, nofun, rfl, nofun⟩

/-- Settles O11: block by block, from the values of R40, R57, R76, R94, R106, R127, R146, R168 and R183. -/
theorem invariantsHoldAtReset : Obligations.InvariantsHoldAtReset :=
  ⟨State.reset_storeSound, nofun, ⟨Nat.zero_le _, nofun⟩, ⟨Nat.zero_le _, List.nodup_nil, nofun⟩,
    ⟨Nat.zero_le _, nofun⟩, ⟨Nat.zero_le _, Nat.zero_le _, List.nodup_nil, nofun⟩,
    ⟨fun _ => rfl, fun _ => rfl⟩, State.reset_consistSound, ⟨State.reset_orderingSound, rfl⟩,
    State.reset_leavesSound, ⟨List.nodup_nil, rfl, rfl⟩, nofun, State.reset_heatSound,
    State.reset_orderingSound, fun _ => ⟨rfl, rfl, rfl⟩⟩

end Sys2Proof.Machine
end

section
/-! The settled statements about the cab arbiter, the numbering of a chain, member silence and the side mapping (R42
to R46, R51, R55, R56, R130, R191). -/

namespace Sys2Proof.Machine

/-! ### The cab arbiter (R42) -/

theorem lowestId_eq_none_iff (ids : List NodeId) : lowestId ids = none ↔ ids = [] := by
  cases ids with
  | nil => simp [lowestId]
  | cons x xs =>
    rw [lowestId]
    split
    · simp
    · split <;> simp

/-- The lowest node ID of a list is in it, and none is below it. -/
theorem lowestId_spec (ids : List NodeId) (x : NodeId) (h : lowestId ids = some x) :
    x ∈ ids ∧ ∀ y ∈ ids, x.toNat ≤ y.toNat := by
  induction ids generalizing x with
  | nil => nomatch h
  | cons a as ih =>
    rw [lowestId] at h
    split at h
    case h_1 none =>
      obtain rfl := (lowestId_eq_none_iff as).mp none
      obtain rfl := Option.some.inj h
      exact ⟨List.mem_cons_self, List.forall_mem_cons.mpr ⟨Nat.le_refl _, nofun⟩⟩
    case h_2 y least =>
      obtain ⟨member, below⟩ := ih y least
      split at h
      case isTrue le =>
        obtain rfl := Option.some.inj h
        refine ⟨List.mem_cons_self, List.forall_mem_cons.mpr ⟨Nat.le_refl _, fun z hz => ?_⟩⟩
        exact Nat.le_trans le (below z hz)
      case isFalse gt =>
        obtain rfl := Option.some.inj h
        exact ⟨List.mem_cons_of_mem a member, List.forall_mem_cons.mpr ⟨Nat.le_of_not_le gt, below⟩⟩

/-- A member that no other one is below is the lowest node ID: IDs are compared as numbers. -/
theorem lowestId_eq_some (ids : List NodeId) (x : NodeId) (hx : x ∈ ids) (hle : ∀ y ∈ ids, x.toNat ≤ y.toNat) :
    lowestId ids = some x := by
  cases h : lowestId ids with
  | none =>
    obtain rfl := (lowestId_eq_none_iff ids).mp h
    nomatch hx
  | some y =>
    obtain ⟨member, below⟩ := lowestId_spec ids y h
    exact congrArg some (BitVec.eq_of_toNat_eq (Nat.le_antisymm (below x hx) (hle y member)))

/-- A claim of a cab type counts, and no other does (R42). -/
theorem RollRecord.claim_eq_iff (r : RollRecord) (c : OwnCab) (hc : c ≠ .noClaim) :
    r.claim = c ↔ r.coachType.isCab = true ∧ r.cab = c := by
  unfold RollRecord.claim
  split
  case isTrue h => simp [h]
  case isFalse h => simp [h, hc.symm]

theorem RollRecord.claim_eq_noClaim (r : RollRecord)
    (h : r.coachType = .trailer ∨ r.coachType = .supply ∨ r.cab = .noClaim) : r.claim = .noClaim := by
  obtain h | h | h := h <;> simp [RollRecord.claim, CoachType.isCab, h]

theorem RollRecord.claim_ne_noClaim (r : RollRecord) (ht : r.coachType.isCab = true) (hc : r.cab ≠ .noClaim) :
    r.claim ≠ .noClaim := by
  simpa [RollRecord.claim, ht] using hc

theorem mem_claimants (rs : List RollRecord) (c : OwnCab) (id : NodeId) :
    id ∈ claimants rs c ↔ ∃ r ∈ rs, r.claim = c ∧ r.id = id := by
  simp [claimants, and_assoc]

/-- The lowest of the records with a claim is the lowest claimant. -/
theorem lowestId_claimants (rs : List RollRecord) (c : OwnCab) (hc : c ≠ .noClaim) (w : RollRecord) (hw : w ∈ rs)
    (ht : w.coachType.isCab = true) (hcab : w.cab = c)
    (hle : ∀ r ∈ rs, r.coachType.isCab = true → r.cab = c → w.id.toNat ≤ r.id.toNat) :
    lowestId (claimants rs c) = some w.id := by
  refine lowestId_eq_some _ _ ((mem_claimants rs c _).mpr ⟨w, hw, (w.claim_eq_iff c hc).mpr ⟨ht, hcab⟩, rfl⟩) ?_
  intro y hy
  obtain ⟨r, hr, claim, rfl⟩ := (mem_claimants rs c y).mp hy
  obtain ⟨isCab, cab⟩ := (r.claim_eq_iff c hc).mp claim
  exact hle r hr isCab cab

/-- An ACTIVE claim prevails (R42). -/
theorem cabGranted_active (rs : List RollRecord) (id : NodeId) (h : lowestId (claimants rs .active) = some id) :
    cabGranted rs = some id := by
  rw [cabGranted, h]

/-- Without an ACTIVE claim the REQUESTED ones compete (R42). -/
theorem cabGranted_requested (rs : List RollRecord)
    (h : ∀ r ∈ rs, ¬(r.coachType.isCab = true ∧ r.cab = .active)) :
    cabGranted rs = lowestId (claimants rs .requested) := by
  have empty : claimants rs .active = [] := by
    refine List.eq_nil_iff_forall_not_mem.mpr fun id hid => ?_
    obtain ⟨r, hr, claim, -⟩ := (mem_claimants rs .active id).mp hid
    exact h r hr ((r.claim_eq_iff .active nofun).mp claim)
  rw [cabGranted, empty, lowestId]

theorem cabResult_noClaim (granted : Option NodeId) (r : RollRecord) (h : r.claim = .noClaim) :
    cabResult granted r = .noCab :=
  if_pos h

theorem cabResult_granted (r : RollRecord) (h : r.claim ≠ .noClaim) : cabResult (some r.id) r = .active := by
  rw [cabResult, if_neg h, if_pos rfl]

theorem cabResult_denied (id : NodeId) (r : RollRecord) (h : r.claim ≠ .noClaim) (hid : r.id ≠ id) :
    cabResult (some id) r = .denied := by
  rw [cabResult, if_neg h, if_neg fun heq => hid (Option.some.inj heq).symm]

/-- The granted member alone is ACTIVE. -/
theorem cabResult_eq_active (granted : Option NodeId) (r : RollRecord) (h : cabResult granted r = .active) :
    granted = some r.id := by
  unfold cabResult at h
  split at h
  · nomatch h
  · split at h
    case isTrue eq => exact eq
    case isFalse => nomatch h

/-- Settles O28: the lowest ACTIVE claim is granted, else the lowest REQUESTED one, and it alone is ACTIVE. -/
theorem cabArbiterGrantsOne : Obligations.CabArbiterGrantsOne := by
  intro rs _
  have results (w : RollRecord) (hg : cabGranted rs = some w.id) (ht : w.coachType.isCab = true)
      (hc : w.cab ≠ .noClaim) :
      cabResult (cabGranted rs) w = .active
        ∧ ∀ r ∈ rs, r.id ≠ w.id → r.coachType.isCab = true → r.cab ≠ .noClaim →
            cabResult (cabGranted rs) r = .denied := by
    rw [hg]
    exact ⟨cabResult_granted w (w.claim_ne_noClaim ht hc),
      fun r _ hid hr hrc => cabResult_denied w.id r (r.claim_ne_noClaim hr hrc) hid⟩
  refine ⟨fun r _ h => cabResult_noClaim _ r (r.claim_eq_noClaim h), ?active, ?requested⟩
  case active =>
    intro w hw ht hc hle
    exact results w (cabGranted_active rs _ (lowestId_claimants rs .active nofun w hw ht hc hle)) ht (by simp [hc])
  case requested =>
    intro none w hw ht hc hle
    have granted : cabGranted rs = some w.id :=
      (cabGranted_requested rs none).trans (lowestId_claimants rs .requested nofun w hw ht hc hle)
    obtain ⟨active, denied⟩ := results w granted ht (by simp [hc])
    exact ⟨active, fun r hr hid hrt hrc => denied r hr hid hrt (by simp [hrc])⟩

/-! ### Position 1, the numbering and the orientations (R43 to R45) -/

/-- What a position's entry takes over from the numbered chain (R41, R45). -/
theorem computeOrder_orientations (c : List ChainLink) (flag : Bool) :
    (computeOrder c flag).members.map (fun m => (m.id, m.orientation))
      = (numbered c (cabGranted (c.map ChainLink.record))).map (fun l => (l.record.id, l.facing)) := by
  simp [computeOrder, Member.ofRecord, Function.comp_def]

theorem numbered_forth (c : List ChainLink) (granted : Option NodeId) (h : headIsFront c granted = true) :
    numbered c granted = c :=
  if_pos h

theorem numbered_back (c : List ChainLink) (granted : Option NodeId) (h : headIsFront c granted = false) :
    numbered c granted = reverseChain c :=
  if_neg (by simp [h])

/-- Seen from its other end a chain runs back, and every coach shows its other end. -/
theorem reverseChain_orientations (c : List ChainLink) :
    (reverseChain c).map (fun l => (l.record.id, l.facing))
      = c.reverse.map (fun l => (l.record.id, l.facing.other)) := by
  simp [reverseChain, Function.comp_def]

/-- The granted cab's end decides the front (R43). -/
theorem headIsFront_granted (pre post : List ChainLink) (l : ChainLink)
    (h : ∀ x ∈ pre, x.record.id ≠ l.record.id) :
    headIsFront (pre ++ l :: post) (some l.record.id) = decide (l.facing = l.record.cabEnd) := by
  have found : (pre ++ l :: post).find? (fun x => decide (x.record.id = l.record.id)) = some l := by
    rw [List.find?_append, List.find?_eq_none.mpr (by simpa using h)]
    simp
  rw [headIsFront, found]

/-- With no ACTIVE member the lower chain end is the front (R44). -/
theorem headIsFront_ends (h t : ChainLink) (mid : List ChainLink) :
    headIsFront (h :: mid ++ [t]) none = decide (h.record.id.toNat ≤ t.record.id.toNat) := by
  cases mid with
  | nil => rfl
  | cons m ms =>
    have last : (h :: (m :: ms) ++ [t]).getLast? = some t := List.getLast?_concat
    unfold headIsFront
    rw [last]
    rfl

theorem headIsFront_alone (l : ChainLink) : headIsFront [l] none = decide (l.facing = .a) := rfl

theorem CoachEnd.other_eq_of_ne (e f : CoachEnd) (h : e ≠ f) : e.other = f := by
  cases e <;> cases f <;> trivial

/-- With its head in front a chain is numbered as it stands, and every coach shows the end that it shows there. -/
theorem computeOrder_forth (c : List ChainLink) (flag : Bool)
    (h : headIsFront c (cabGranted (c.map ChainLink.record)) = true) :
    (computeOrder c flag).members.map (fun m => (m.id, m.orientation))
      = c.map (fun l => (l.record.id, l.facing)) := by
  rw [computeOrder_orientations, numbered_forth c _ h]

/-- With its other end in front it is numbered backwards. -/
theorem computeOrder_back (c : List ChainLink) (flag : Bool)
    (h : headIsFront c (cabGranted (c.map ChainLink.record)) = false) :
    (computeOrder c flag).members.map (fun m => (m.id, m.orientation))
      = c.reverse.map (fun l => (l.record.id, l.facing.other)) := by
  rw [computeOrder_orientations, numbered_back c _ h, reverseChain_orientations]

/-- Settles O29: each kind of chain by its front, and the example of 3.8 by evaluation from each of its nodes. -/
theorem orderExampleTurnedCoach : Obligations.OrderExampleTurnedCoach := by
  refine ⟨fun c flag => ?chain, ?worked⟩
  case chain =>
    intro order forth back
    refine ⟨?granted, ?ends, ?alone⟩
    case granted =>
      intro pre l post hc first granted
      have head : headIsFront c (cabGranted (c.map ChainLink.record)) = decide (l.facing = l.record.cabEnd) := by
        rw [granted, hc, headIsFront_granted pre post l first]
      have runsForth (h : l.facing = l.record.cabEnd) : order = forth := computeOrder_forth c flag (by simp [head, h])
      have runsBack (h : l.facing ≠ l.record.cabEnd) : order = back := computeOrder_back c flag (by simp [head, h])
      refine ⟨runsForth, runsBack, ?_⟩
      have member : l ∈ c := by simp [hc]
      by_cases h : l.facing = l.record.cabEnd
      · rw [runsForth h]
        exact List.mem_map.mpr ⟨l, member, by rw [h]⟩
      · rw [runsBack h]
        exact List.mem_map.mpr ⟨l, List.mem_reverse.mpr member, by rw [CoachEnd.other_eq_of_ne _ _ h]⟩
    case ends =>
      intro h mid t hc none
      have head : headIsFront c (cabGranted (c.map ChainLink.record))
          = decide (h.record.id.toNat ≤ t.record.id.toNat) := by
        rw [none, hc, headIsFront_ends]
      exact ⟨fun le => computeOrder_forth c flag (by simp [head, le]),
        fun gt => computeOrder_back c flag (by simp [head, gt])⟩
    case alone =>
      intro l hc none
      have head : headIsFront c (cabGranted (c.map ChainLink.record)) = decide (l.facing = .a) := by
        rw [none, hc, headIsFront_alone]
      by_cases h : l.facing = .a
      · have runsForth : order = forth := computeOrder_forth c flag (by simp [head, h])
        simp [runsForth, forth, hc, h]
      · have runsBack : order = back := computeOrder_back c flag (by simp [head, h])
        simp [runsBack, back, hc, CoachEnd.other_eq_of_ne _ _ h]
  case worked => decide

/-! ### Member silence (R51) -/

theorem exec_memberSilent (p : Nat) (s : State) : exec (.memberSilent p) s = execMemberSilent p s := rfl

/-- Settles O26: at its occasion the flag is set and the notice posted. -/
theorem silentMemberIsFlagged : Obligations.SilentMemberIsFlagged := by
  intro s p e hr hf hp he hs
  have occasion : s.silentOccasion p = some (e.lastHeard + Config.tSILENT) := by
    simp [State.silentOccasion, s.isFormed_eq_true_iff.mpr hf, hp, he, hs]
  rw [exec_memberSilent, execMemberSilent, occasion, State.onOccasion_some _ _ _ hr]
  rfl

/-! ### The side mapping (R55, R56, R130) -/

theorem State.trainLeft_formed_a (s : State) (hf : s.cc.formState = .formed) (ho : s.ownOrientation = .a) :
    s.trainLeft = some s.straps.sideRef := by
  rw [State.trainLeft, if_pos (s.isFormed_eq_true_iff.mpr hf), ho]

theorem State.trainLeft_formed_b (s : State) (hf : s.cc.formState = .formed) (ho : s.ownOrientation = .b) :
    s.trainLeft = some s.straps.sideRef.other := by
  rw [State.trainLeft, if_pos (s.isFormed_eq_true_iff.mpr hf), ho]

theorem State.trainLeft_notFormed (s : State) (hf : s.cc.formState ≠ .formed) : s.trainLeft = none :=
  if_neg (by simp [s.isFormed_eq_false_iff.mpr hf])

/-- A side field names sides by train-left (R130). -/
theorem State.sidesOf_known (s : State) (side : Side) (h : s.trainLeft = some side) :
    s.sidesOf .left = [side] ∧ s.sidesOf .right = [side.other] := by
  simp [State.sidesOf, h]

theorem State.sidesOf_both (s : State) : s.sidesOf .both = [.one, .two] := by
  cases h : s.trainLeft <;> simp [State.sidesOf, h]

theorem State.sidesOf_unknown (s : State) (d : DoorSide) (h : s.trainLeft = none) : s.sidesOf d = [.one, .two] := by
  simp [State.sidesOf, h]

theorem Side.other_other (side : Side) : side.other.other = side := by
  cases side <;> rfl

/-- Settles O30: by the own orientation in FORMED, and by the UNKNOWN mapping elsewhere. -/
theorem sideMappingFollowsOrientation : Obligations.SideMappingFollowsOrientation := by
  intro s
  refine ⟨fun hf => ⟨fun ho => ?a, fun ho => ?b, ?both⟩, fun hf => ?unknown⟩
  case a =>
    have known := s.trainLeft_formed_a hf ho
    obtain ⟨left, right⟩ := s.sidesOf_known _ known
    exact ⟨known, left, right⟩
  case b =>
    have known := s.trainLeft_formed_b hf ho
    obtain ⟨left, right⟩ := s.sidesOf_known _ known
    exact ⟨known, left, right.trans (by rw [Side.other_other])⟩
  case both => exact s.sidesOf_both
  case unknown =>
    have unknown := s.trainLeft_notFormed hf
    exact ⟨unknown, fun d => s.sidesOf_unknown d unknown⟩

end Sys2Proof.Machine
end

section
/-! SUPPORT. What the doors, the heating, the line and the end links leave of the Consist Controller and the strap
record: for each of their operations that writes neither, one lemma. -/

namespace Sys2Proof.Machine

variable (s : State)

/-! ### Door leaves -/

@[simp] theorem State.obstructLeaf_keepsCc (l : Leaf) :
    (s.obstructLeaf l).cc = s.cc ∧ (s.obstructLeaf l).straps = s.straps := by
  unfold State.obstructLeaf
  dsimp only
  split <;> simp

@[simp] theorem State.enterDrive_keepsCc (l : Leaf) :
    (s.enterDrive l).cc = s.cc ∧ (s.enterDrive l).straps = s.straps := by
  unfold State.enterDrive
  dsimp only
  split <;> simp

@[simp] theorem State.takeAMatch_keepsCc (i : Nat) :
    (s.takeAMatch i).cc = s.cc ∧ (s.takeAMatch i).straps = s.straps := by
  unfold State.takeAMatch
  split
  · split <;> simp
  · simp

@[simp] theorem State.takeBMatch_keepsCc (i : Nat) :
    (s.takeBMatch i).cc = s.cc ∧ (s.takeBMatch i).straps = s.straps := by
  unfold State.takeBMatch
  split
  · split <;> simp
  · simp

@[simp] theorem State.takeStartMatches_keepsCc (orders : List (Nat × ChannelOrder)) :
    (s.takeStartMatches orders).cc = s.cc ∧ (s.takeStartMatches orders).straps = s.straps := by
  unfold State.takeStartMatches
  induction orders generalizing s with
  | nil => simp
  | cons x xs ih =>
    rw [List.foldl_cons]
    split
    · simpa using ih (s.takeAMatch x.1)
    · exact ih s

@[simp] theorem State.onLeaves_keepsCc (sides : List Side) (passage : Leaf → Leaf × ChannelOrder) :
    (s.onLeaves sides passage).cc = s.cc ∧ (s.onLeaves sides passage).straps = s.straps := by
  simp [State.onLeaves, State.passLeaves]

@[simp] theorem State.releaseLeaves_keepsCc (sides : List Side) (n : FormationNumber) :
    (s.releaseLeaves sides n).cc = s.cc ∧ (s.releaseLeaves sides n).straps = s.straps := by
  unfold State.releaseLeaves
  split <;> simp

@[simp] theorem State.closeLeaves_keepsCc (sides : List Side) :
    (s.closeLeaves sides).cc = s.cc ∧ (s.closeLeaves sides).straps = s.straps :=
  s.onLeaves_keepsCc sides Leaf.close

@[simp] theorem State.takeClChange_keepsCc (l : Leaf) :
    (s.takeClChange l).cc = s.cc ∧ (s.takeClChange l).straps = s.straps :=
  ⟨rfl, rfl⟩

@[simp] theorem State.takeObChange_keepsCc (l : Leaf) :
    (s.takeObChange l).cc = s.cc ∧ (s.takeObChange l).straps = s.straps := by
  unfold State.takeObChange
  dsimp only
  split <;> simp

@[simp] theorem State.isolateRequest_keepsCc (leaf onOff : Byte) :
    (s.isolateRequest leaf onOff).1.cc = s.cc ∧ (s.isolateRequest leaf onOff).1.straps = s.straps := by
  unfold State.isolateRequest State.endIsolation
  split
  case h_4 =>
    split
    · split <;> simp
    · simp
  all_goals simp

/-! ### Door commands and door status -/

@[simp] theorem State.repeatCopy_keepsCc (seq : Byte) :
    (s.repeatCopy seq).cc = s.cc ∧ (s.repeatCopy seq).straps = s.straps := by
  unfold State.repeatCopy
  split <;> simp

@[simp] theorem State.applyIssue_keepsCc (c : DoorCmd) :
    (s.applyIssue c).cc = s.cc ∧ (s.applyIssue c).straps = s.straps := by
  unfold State.applyIssue
  split
  case h_1 => split <;> simp
  case h_2 =>
    split
    · split <;> simp
    · simp

@[simp] theorem State.issue_keepsCc (c : DoorCmd) :
    (s.issue c).1.cc = s.cc ∧ (s.issue c).1.straps = s.straps := by
  unfold State.issue
  dsimp only
  split <;> simp

@[simp] theorem State.doorIssue_keepsCc (action side rangeFrom rangeTo : Byte) :
    (s.doorIssue action side rangeFrom rangeTo).1.cc = s.cc
      ∧ (s.doorIssue action side rangeFrom rangeTo).1.straps = s.straps := by
  unfold State.doorIssue
  split
  case h_2 => simp
  case h_1 =>
    split
    · simp
    · split
      · simp
      · split <;> simp

@[simp] theorem State.receiveRelease_keepsCc (sender : NodeId) (c : DoorCmd) :
    (s.receiveRelease sender c).cc = s.cc ∧ (s.receiveRelease sender c).straps = s.straps := by
  unfold State.receiveRelease State.refuseRelease
  split
  · simp
  · split
    · simp
    · split <;> simp

@[simp] theorem State.receiveClose_keepsCc (n : FormationNumber) (c : DoorCmd) :
    (s.receiveClose n c).cc = s.cc ∧ (s.receiveClose n c).straps = s.straps := by
  unfold State.receiveClose
  split
  · split
    · split <;> simp
    · simp
  · simp

@[simp] theorem State.takeDoorcmd_keepsCc (f : Frame) :
    (s.takeDoorcmd f).cc = s.cc ∧ (s.takeDoorcmd f).straps = s.straps := by
  unfold State.takeDoorcmd
  split
  · simp
  · dsimp only
    split
    · simp
    · split <;> simp

@[simp] theorem State.takeDoorstat_keepsCc (f : Frame) :
    (s.takeDoorstat f).cc = s.cc ∧ (s.takeDoorstat f).straps = s.straps := by
  unfold State.takeDoorstat
  split
  · split <;> simp
  · simp

/-! ### Heating -/

@[simp] theorem State.storeBid_keepsCc (p : Nat) (i : AllocInput) :
    (s.storeBid p i).cc = s.cc ∧ (s.storeBid p i).straps = s.straps := by
  unfold State.storeBid
  dsimp only
  split <;> split <;> simp

@[simp] theorem State.takeHeatbid_keepsCc (f : Frame) :
    (s.takeHeatbid f).cc = s.cc ∧ (s.takeHeatbid f).straps = s.straps := by
  unfold State.takeHeatbid
  split
  · split
    · split <;> simp
    · simp
  · simp

@[simp] theorem State.endAllocation_keepsCc (a : Allocation) :
    (s.endAllocation a).cc = s.cc ∧ (s.endAllocation a).straps = s.straps := by
  unfold State.endAllocation State.takeGrant
  dsimp only
  split
  · simp
  · split
    · simp
    · split <;> simp

@[simp] theorem State.ownValuesChanged_keepsCc (totals : Bool) :
    (s.ownValuesChanged totals).cc = s.cc ∧ (s.ownValuesChanged totals).straps = s.straps := by
  unfold State.ownValuesChanged
  dsimp only
  split <;> split <;> simp

@[simp] theorem State.heatDemandRequest_keepsCc (channel frost comfort : Byte) :
    (s.heatDemandRequest channel frost comfort).1.cc = s.cc
      ∧ (s.heatDemandRequest channel frost comfort).1.straps = s.straps := by
  unfold State.heatDemandRequest
  dsimp only
  split
  · simp
  · split
    · simp
    · split <;> simp

@[simp] theorem State.supplyOfferRequest_keepsCc (offer : BitVec 16) :
    (s.supplyOfferRequest offer).1.cc = s.cc ∧ (s.supplyOfferRequest offer).1.straps = s.straps := by
  unfold State.supplyOfferRequest
  split
  · simp
  · split
    · simp
    · split <;> simp

/-! ### The line -/

@[simp] theorem State.attempt_keepsCc (c : CurrentFrame) :
    (s.attempt c).cc = s.cc ∧ (s.attempt c).straps = s.straps := by
  unfold State.attempt
  split <;> simp

@[simp] theorem State.takeCandidate_keepsCc :
    s.takeCandidate.cc = s.cc ∧ s.takeCandidate.straps = s.straps := by
  unfold State.takeCandidate
  split
  · dsimp only
    split <;> simp
  · simp

@[simp] theorem State.giveUp_keepsCc (f : Frame) (r : TxResult) :
    (s.giveUp f r).cc = s.cc ∧ (s.giveUp f r).straps = s.straps := by
  unfold State.giveUp State.postAbandoned
  dsimp only
  split <;> simp

@[simp] theorem State.afterJam_keepsCc (c : CurrentFrame) :
    (s.afterJam c).cc = s.cc ∧ (s.afterJam c).straps = s.straps := by
  unfold State.afterJam State.backOff
  split
  · simp
  · dsimp only
    split <;> simp
  · split
    · simp
    · split <;> simp

@[simp] theorem State.noteRise_keepsCc (before after : Nat) :
    (s.noteRise before after).cc = s.cc ∧ (s.noteRise before after).straps = s.straps := by
  obtain ⟨lhu, lau, h⟩ := s.noteRise_eq before after
  simp [h]

@[simp] theorem State.noteFall_keepsCc (after : Nat) :
    (s.noteFall after).cc = s.cc ∧ (s.noteFall after).straps = s.straps := by
  obtain ⟨lhu, lau, h⟩ := s.noteFall_eq after
  simp [h]

@[simp] theorem State.enqueue_keepsCc (f : Frame) :
    (s.enqueue f).cc = s.cc ∧ (s.enqueue f).straps = s.straps := by
  unfold State.enqueue
  dsimp only
  split <;> simp

@[simp] theorem State.takeHold_keepsCc (f : Frame) :
    (s.takeHold f).cc = s.cc ∧ (s.takeHold f).straps = s.straps :=
  ⟨rfl, rfl⟩

/-! ### End links -/

@[simp] theorem State.endFaulty_keepsCc (e : CoachEnd) :
    (s.endFaulty e).cc = s.cc ∧ (s.endFaulty e).straps = s.straps := by
  simp [State.endFaulty]

@[simp] theorem State.endFaultyBy_keepsCc (e : CoachEnd) (t : Time) :
    (s.endFaultyBy e t).cc = s.cc ∧ (s.endFaultyBy e t).straps = s.straps := by
  unfold State.endFaultyBy
  split
  · split <;> simp
  · simp

end Sys2Proof.Machine
end

section
/-! SUPPORT. Sound node IDs: which lists keep them, the chain that is walked from a node, and the candidate order that
is computed from it (R29, R41 to R45, R47, R49). -/

namespace Sys2Proof.Machine

/-! ### Lists of node IDs -/

/-- Distinct IDs of a sound list, the own one among them, are sound. -/
theorem soundIds.of_subset {own : NodeId} {ids ids' : List NodeId} (h : soundIds own ids) (nodup : ids'.Nodup)
    (subset : ids' ⊆ ids) (mem : own ∈ ids') : soundIds own ids' := by
  obtain ⟨-, cap, -, -⟩ := h
  exact ⟨List.length_pos_of_mem mem, Nat.le_trans (nodup.length_le_of_subset subset) cap, nodup, mem⟩

theorem soundIds.perm {own : NodeId} {ids ids' : List NodeId} (h : soundIds own ids) (perm : ids'.Perm ids) :
    soundIds own ids' := by
  obtain ⟨pos, cap, nodup, mem⟩ := h
  exact ⟨perm.length_eq ▸ pos, perm.length_eq ▸ cap, perm.nodup_iff.mpr nodup, perm.mem_iff.mpr mem⟩

theorem soundIds.nodup {own : NodeId} {ids : List NodeId} (h : soundIds own ids) : ids.Nodup := by
  obtain ⟨-, -, nodup, -⟩ := h
  exact nodup

theorem soundIds.mem {own : NodeId} {ids : List NodeId} (h : soundIds own ids) : own ∈ ids := by
  obtain ⟨-, -, -, mem⟩ := h
  exact mem

/-- One more ID has a place below the cap. -/
theorem soundIds.concat {own id : NodeId} {ids : List NodeId} (h : soundIds own ids) (new : id ∉ ids)
    (room : ids.length < Config.candidateCap) : soundIds own (ids ++ [id]) := by
  obtain ⟨-, -, nodup, mem⟩ := h
  have perm : (ids ++ [id]).Perm (id :: ids) := List.perm_append_singleton id ids
  have length : (ids ++ [id]).length = ids.length + 1 := List.length_append
  refine ⟨?_, ?_, perm.nodup_iff.mpr (List.nodup_cons.mpr ⟨new, nodup⟩), List.mem_append_left _ mem⟩
  · rw [length]
    exact Nat.le_add_left 1 _
  · rw [length]
    exact room

/-! ### The candidate table (R25, R26) -/

theorem recordOf_isSome_iff (rs : List RollRecord) (id : NodeId) :
    (recordOf rs id).isSome = true ↔ id ∈ rs.map RollRecord.id := by
  simp [recordOf]

theorem recordOf_mem (rs : List RollRecord) (id : NodeId) (r : RollRecord) (h : recordOf rs id = some r) :
    r ∈ rs ∧ r.id = id :=
  ⟨List.mem_of_find?_eq_some h, by simpa using List.find?_some h⟩

/-- A record put in place of the one stored for its ID leaves the IDs, and another one joins them. -/
theorem putRecord_ids (rs : List RollRecord) (r : RollRecord) :
    (putRecord rs r).map RollRecord.id =
      if r.id ∈ rs.map RollRecord.id then rs.map RollRecord.id else rs.map RollRecord.id ++ [r.id] := by
  have stored : rs.any (fun x => decide (x.id = r.id)) = true ↔ r.id ∈ rs.map RollRecord.id := by simp
  unfold putRecord
  by_cases h : r.id ∈ rs.map RollRecord.id
  · rw [if_pos (stored.mpr h), if_pos h, List.map_map]
    refine List.map_congr_left fun x _ => ?_
    by_cases hx : x.id = r.id <;> simp [hx]
  · rw [if_neg (mt stored.mp h), if_neg h, List.map_append]
    rfl

theorem soundIds_putRecord (own : NodeId) (rs : List RollRecord) (r : RollRecord)
    (h : soundIds own (rs.map RollRecord.id))
    (place : r.id ∈ rs.map RollRecord.id ∨ rs.length < Config.candidateCap) :
    soundIds own ((putRecord rs r).map RollRecord.id) := by
  rw [putRecord_ids]
  split
  case isTrue => exact h
  case isFalse new => exact h.concat new (by simpa using place.resolve_left new)

/-! ### The walk and the chain (R29) -/

/-- A link leads to a record of the table. -/
theorem linkFrom_mem (rs : List RollRecord) (r next : RollRecord) (e f : CoachEnd)
    (h : linkFrom rs r e = some (next, f)) : next ∈ rs := by
  unfold linkFrom at h
  split at h
  · split at h
    case h_1 found stored =>
      split at h
      · obtain ⟨rfl, -⟩ := Prod.mk.inj (Option.some.inj h)
        exact (recordOf_mem rs _ found stored).1
      · nomatch h
    case h_2 => nomatch h
  all_goals nomatch h

/-- The IDs of the records that a walk enters. -/
def walkIds (rs : List RollRecord) (fuel : Nat) (walked : List NodeId) (r : RollRecord) (e : CoachEnd) :
    List NodeId :=
  (walkOut rs fuel walked r e).map (fun x => x.1.id)

/-- A walk enters distinct records of the table, none of them walked before. -/
theorem walkIds_spec (rs : List RollRecord) (fuel : Nat) (walked : List NodeId) (r : RollRecord) (e : CoachEnd) :
    (walkIds rs fuel walked r e).Nodup ∧ walkIds rs fuel walked r e ⊆ rs.map RollRecord.id
      ∧ ∀ id ∈ walkIds rs fuel walked r e, id ∉ walked := by
  induction fuel generalizing walked r e with
  | zero => exact ⟨List.nodup_nil, List.nil_subset _, nofun⟩
  | succ fuel ih =>
    rw [walkIds, walkOut]
    cases link : linkFrom rs r e with
    | none => exact ⟨List.nodup_nil, List.nil_subset _, nofun⟩
    | some step =>
      obtain ⟨next, f⟩ := step
      dsimp only
      split
      case isTrue => exact ⟨List.nodup_nil, List.nil_subset _, nofun⟩
      case isFalse fresh =>
        obtain ⟨nodup, inTable, new⟩ := ih (next.id :: walked) next f.other
        refine ⟨List.nodup_cons.mpr ⟨fun again => new _ again List.mem_cons_self, nodup⟩,
          List.cons_subset.mpr ⟨List.mem_map_of_mem (linkFrom_mem rs r next e f link), inTable⟩,
          List.forall_mem_cons.mpr ⟨by simpa using fresh, fun id hid => ?_⟩⟩
        exact mt (List.mem_cons_of_mem _) (new id hid)

/-- The chain names this node, what the walk out of end A enters, and what the walk out of end B enters then. -/
theorem chainFrom_ids (rs : List RollRecord) (own : RollRecord) :
    ((chainFrom rs own).map (fun l => l.record.id)).Perm
      (own.id :: (walkIds rs rs.length [own.id] own .a
        ++ walkIds rs rs.length (own.id :: walkIds rs rs.length [own.id] own .a) own .b)) := by
  simp only [chainFrom, walkIds, List.map_append, List.map_reverse, List.map_map, Function.comp_def, List.map_cons,
    List.append_assoc]
  exact ((List.reverse_perm _).append_right _).trans List.perm_middle

/-- The chain walked from a record of a sound table names sound IDs (R29). -/
theorem soundIds_chainFrom (rs : List RollRecord) (own : RollRecord)
    (h : soundIds own.id (rs.map RollRecord.id)) :
    soundIds own.id ((chainFrom rs own).map (fun l => l.record.id)) := by
  obtain ⟨nodupA, inTableA, newA⟩ := walkIds_spec rs rs.length [own.id] own .a
  obtain ⟨nodupB, inTableB, newB⟩ :=
    walkIds_spec rs rs.length (own.id :: walkIds rs rs.length [own.id] own .a) own .b
  refine soundIds.perm (h.of_subset ?nodup ?subset List.mem_cons_self) (chainFrom_ids rs own)
  case nodup =>
    have distinct (a : NodeId) (inA : a ∈ walkIds rs rs.length [own.id] own .a) (b : NodeId)
        (inB : b ∈ walkIds rs rs.length (own.id :: walkIds rs rs.length [own.id] own .a) own .b) : a ≠ b := by
      rintro rfl
      exact newB a inB (List.mem_cons_of_mem _ inA)
    refine List.nodup_cons.mpr ⟨?own, List.nodup_append.mpr ⟨nodupA, nodupB, distinct⟩⟩
    rw [List.mem_append, not_or]
    exact ⟨fun inA => newA _ inA List.mem_cons_self, fun inB => newB _ inB List.mem_cons_self⟩
  case subset =>
    exact List.cons_subset.mpr ⟨h.mem, List.append_subset.mpr ⟨inTableA, inTableB⟩⟩

/-! ### The candidate order (R42 to R45) -/

/-- What a candidate order keeps (R47, R49). -/
def CandidateOrder.sound (o : CandidateOrder) (own : NodeId) : Prop :=
  soundIds own (o.members.map Member.id) ∧ activeCount o.members ≤ 1

/-- With distinct IDs at most one member is ACTIVE when all that are have one ID. -/
theorem activeCount_le_one (ms : List Member) (id : NodeId) (nodup : (ms.map Member.id).Nodup)
    (h : ∀ m ∈ ms, m.cab = .active → m.id = id) : activeCount ms ≤ 1 := by
  have sub : ((ms.filter (fun m => decide (m.cab = .active))).map Member.id).Nodup :=
    nodup.sublist (List.filter_sublist.map Member.id)
  have all : (ms.filter (fun m => decide (m.cab = .active))).map Member.id
      = List.replicate (activeCount ms) id := by
    refine List.eq_replicate_iff.mpr ⟨List.length_map _, fun x hx => ?_⟩
    obtain ⟨m, hm, rfl⟩ := List.mem_map.mp hx
    obtain ⟨mem, active⟩ := List.mem_filter.mp hm
    exact h m mem (by simpa using active)
  rw [all] at sub
  exact List.nodup_replicate.mp sub

/-- A numbering names the records of the chain. -/
theorem numbered_ids (c : List ChainLink) (granted : Option NodeId) :
    ((numbered c granted).map (fun l => l.record.id)).Perm (c.map (fun l => l.record.id)) := by
  unfold numbered
  split
  · exact List.Perm.refl _
  · simp only [reverseChain, List.map_reverse, List.map_map, Function.comp_def]
    exact List.reverse_perm _

theorem computeOrder_ids (c : List ChainLink) (flag : Bool) :
    (computeOrder c flag).members.map Member.id
      = (numbered c (cabGranted (c.map ChainLink.record))).map (fun l => l.record.id) := by
  simp [computeOrder, Member.ofRecord, Function.comp_def]

/-- An ACTIVE member is the one that the arbiter grants (R42). -/
theorem computeOrder_active (c : List ChainLink) (flag : Bool) (m : Member)
    (hm : m ∈ (computeOrder c flag).members) (h : m.cab = .active) :
    cabGranted (c.map ChainLink.record) = some m.id := by
  obtain ⟨l, -, rfl⟩ := List.mem_map.mp hm
  exact cabResult_eq_active _ l.record h

/-- The order computed from a sound chain is sound. -/
theorem computeOrder_sound (own : NodeId) (c : List ChainLink) (flag : Bool)
    (h : soundIds own (c.map (fun l => l.record.id))) : (computeOrder c flag).sound own := by
  have ids : soundIds own ((computeOrder c flag).members.map Member.id) := by
    rw [computeOrder_ids]
    exact h.perm (numbered_ids c _)
  refine ⟨ids, activeCount_le_one _ ((cabGranted (c.map ChainLink.record)).getD own) ids.nodup fun m hm active => ?_⟩
  rw [computeOrder_active c flag m hm active, Option.getD_some]

end Sys2Proof.Machine
end

section
/-! The settled statement about the consist table (R47, R49): every command keeps it sound, block by block. -/

namespace Sys2Proof.Machine

/-! ### What the consist invariant asks of the CC -/

/-- The consist invariant of a CC of the node with an ID (R47, R49). -/
structure Cc.sound (c : Cc) (own : NodeId) : Prop where
  table : c.table.sound own
  candidates : soundIds own (c.candidates.map RollRecord.id)
  ordering : ∀ o ∈ c.ordering, soundIds own (o.chain.map (fun l => l.record.id))
  order : ∀ o ∈ c.candidateOrder, o.sound own

theorem State.consistSound_iff (s : State) : s.consistSound ↔ s.cc.sound s.id :=
  ⟨fun ⟨table, candidates, ordering, order⟩ => ⟨table, candidates, ordering, order⟩,
    fun ⟨table, candidates, ordering, order⟩ => ⟨table, candidates, ordering, order⟩⟩

/-- A state with the node's straps and a sound CC. -/
theorem State.consistSound_of_cc {s t : State} (straps : t.straps = s.straps) (h : t.cc.sound s.id) :
    t.consistSound := by
  rw [State.consistSound_iff, State.id, straps]
  exact h

/-- What leaves the CC and the straps keeps the invariant. -/
theorem State.consistSound.kept {s t : State} (h : s.consistSound) (kept : t.cc = s.cc ∧ t.straps = s.straps) :
    t.consistSound := by
  obtain ⟨cc, straps⟩ := kept
  exact State.consistSound_of_cc straps (cc ▸ s.consistSound_iff.mp h)

/-- What leaves the straps and the four fields of the CC that the invariant reads keeps it. -/
theorem State.consistSound.of_fields {s t : State} (h : s.consistSound) (straps : t.straps = s.straps)
    (table : t.cc.table = s.cc.table) (candidates : t.cc.candidates = s.cc.candidates)
    (ordering : t.cc.ordering = s.cc.ordering) (order : t.cc.candidateOrder = s.cc.candidateOrder) :
    t.consistSound := by
  obtain ⟨soundTable, soundCandidates, soundOrdering, soundOrder⟩ := s.consistSound_iff.mp h
  exact State.consistSound_of_cc straps
    ⟨table ▸ soundTable, candidates ▸ soundCandidates, ordering ▸ soundOrdering, order ▸ soundOrder⟩

theorem State.consistSound.setCc {s : State} {c : Cc} (h : c.sound s.id) : (s.setCc c).consistSound :=
  State.consistSound_of_cc rfl h

theorem State.consistSound.post {s : State} (h : s.consistSound) (n : Notice) : (s.post n).consistSound :=
  h.kept ⟨rfl, rfl⟩

/-! ### The table (R47, R51, R52) -/

/-- The table's soundness is that of its members. -/
theorem ConsistTable.sound_iff (t : ConsistTable) (own : NodeId) :
    t.sound own ↔ soundIds own ((t.entries.map TableEntry.member).map Member.id)
      ∧ activeCount (t.entries.map TableEntry.member) ≤ 1 := by
  rw [ConsistTable.sound, List.map_map]
  rfl

/-- A table with the same members is sound with it. -/
theorem ConsistTable.sound.of_members {t u : ConsistTable} {own : NodeId} (h : t.sound own)
    (members : u.entries.map TableEntry.member = t.entries.map TableEntry.member) : u.sound own := by
  rw [ConsistTable.sound_iff, members]
  exact (t.sound_iff own).mp h

theorem ConsistTable.hear_members (t : ConsistTable) (id : NodeId) (now : Time) :
    (t.hear id now).entries.map TableEntry.member = t.entries.map TableEntry.member := by
  rw [ConsistTable.hear, List.map_map]
  refine List.map_congr_left fun e _ => ?_
  by_cases he : e.member.id = id <;> simp [he]

theorem ConsistTable.silence_members (t : ConsistTable) (p : Nat) :
    (t.silence p).entries.map TableEntry.member = t.entries.map TableEntry.member := by
  refine List.ext_getElem? fun i => ?_
  rw [ConsistTable.silence, List.getElem?_map, List.getElem?_map, List.getElem?_modify]
  by_cases hi : p - 1 = i <;> cases t.entries[i]? <;> simp [hi]

/-- A commit takes the members of the candidate order over (R49). -/
theorem commitTable_sound (o : CandidateOrder) (now : Time) (own : NodeId) (h : o.sound own) :
    (commitTable o now).sound own := by
  have members : (commitTable o now).entries.map TableEntry.member = o.members := by
    rw [commitTable, List.map_map]
    exact List.map_id _
  rw [ConsistTable.sound_iff, members]
  exact h

/-- A table of the own entry alone, whatever its cab state. -/
theorem ConsistTable.sound_alone (t : ConsistTable) (own : NodeId)
    (h : t.entries.map (fun e => e.member.id) = [own]) : t.sound own := by
  have one : t.entries.length = 1 := by simpa using congrArg List.length h
  refine ⟨h ▸ soundIds_alone own, Nat.le_trans (List.length_filter_le _ _) ?_⟩
  rw [List.length_map]
  exact Nat.le_of_eq one

theorem soloMember_id (st : Straps) (r : RollRecord) (cab : OwnCab) : (soloMember st r cab).id = r.id := by
  unfold soloMember
  split <;> rfl

/-- The SOLO table is sound (R37, R38, R48). -/
theorem State.writeSoloTable_sound (s : State) : s.writeSoloTable.cc.table.sound s.id :=
  ConsistTable.sound_alone _ _ (congrArg ([·]) ((soloMember_id _ _ _).trans s.ownRecord_id))

/-! ### GATHER: the candidate table and the computation's input (R18, R19, R24 to R29) -/

section Kept

variable {s : State}

theorem State.ownCandidate_id (s : State) : s.ownCandidate.id = s.id := by
  unfold State.ownCandidate
  cases h : recordOf s.cc.candidates s.id with
  | none => exact s.ownRecord_id
  | some r => exact (recordOf_mem _ _ r h).2

theorem State.consistSound.startOrdering (h : s.consistSound) (p : Bool) : (s.startOrdering p).consistSound := by
  obtain ⟨table, candidates, -, order⟩ := s.consistSound_iff.mp h
  refine State.consistSound.setCc ⟨table, candidates, fun o ho => ?_, order⟩
  obtain rfl := Option.some.inj ho
  have chain := soundIds_chainFrom s.cc.candidates s.ownCandidate
  rw [s.ownCandidate_id] at chain
  exact chain candidates

theorem State.consistSound.testClosure (h : s.consistSound) : s.testClosure.consistSound := by
  unfold State.testClosure
  split
  · exact h.startOrdering false
  · exact h

/-- A record joins the candidate table in its place or below the cap (R26). -/
theorem State.consistSound.putCandidate (h : s.consistSound) (r : RollRecord)
    (place : r.id ∈ s.cc.candidates.map RollRecord.id ∨ s.cc.candidates.length < Config.candidateCap) :
    (s.setCc { s.cc with candidates := putRecord s.cc.candidates r }).consistSound := by
  obtain ⟨table, candidates, ordering, order⟩ := s.consistSound_iff.mp h
  exact State.consistSound.setCc ⟨table, soundIds_putRecord _ _ r candidates place, ordering, order⟩

theorem State.consistSound.insertOwnRecord (h : s.consistSound) : s.insertOwnRecord.consistSound :=
  h.putCandidate s.ownRecord (.inl (s.consistSound_iff.mp h).candidates.mem)

theorem State.consistSound.renewOwnRecord (h : s.consistSound) : s.renewOwnRecord.consistSound := by
  unfold State.renewOwnRecord
  split
  · exact h.insertOwnRecord.testClosure
  · exact h

/-- GATHER begins with the own record alone, and orders it alone when it is closed (R24, R27). -/
theorem Cc.gatherEntry_sound (c : Cc) (now : Time) (own : RollRecord) (table : c.table.sound own.id)
    (none : c.ordering = none) : (c.gatherEntry now own).sound own.id := by
  refine ⟨table.of_members rfl, soundIds_alone own.id, fun o ho => ?_, nofun⟩
  rw [Cc.gatherEntry, none] at ho
  split at ho
  case isTrue =>
    obtain rfl := Option.some.inj ho
    exact soundIds_chainFrom [own] own (soundIds_alone own.id)
  case isFalse => nomatch ho

theorem State.consistSound.leaveFor (h : s.consistSound) (n : FormationNumber) :
    ((s.cc.leaveFor n).gatherEntry s.now s.ownRecord).sound s.id :=
  Cc.gatherEntry_sound _ _ _ (s.consistSound_iff.mp h).table rfl

theorem State.consistSound.startFormation (h : s.consistSound) (r : ReformReason) :
    (s.startFormation r).consistSound :=
  State.consistSound_of_cc (s.startFormation_straps r) (s.startFormation_cc r ▸ h.leaveFor _)

theorem State.consistSound.adopt (h : s.consistSound) (n : FormationNumber) (r : LeftReason) :
    (s.adopt n r).consistSound :=
  State.consistSound_of_cc (s.adopt_straps n r) (s.adopt_cc n r ▸ h.leaveFor n)

/-! ### Sightings (R17, R22, R52) -/

theorem State.consistSound.hearMember (h : s.consistSound) (id : NodeId) (p : Nat) :
    (s.hearMember id p).consistSound := by
  obtain ⟨table, candidates, ordering, order⟩ := s.consistSound_iff.mp h
  have heard : (s.setCc { s.cc with table := s.cc.table.hear id s.now }).consistSound :=
    State.consistSound.setCc
      ⟨table.of_members (ConsistTable.hear_members _ _ _), candidates, ordering, order⟩
  unfold State.hearMember
  dsimp only
  split
  · exact heard.post _
  · exact heard

theorem State.consistSound.sight (h : s.consistSound) (f : Frame) : (s.sight f).consistSound := by
  unfold State.sight State.sightEqual
  split
  · exact h.adopt _ _
  · split
    · split
      · split
        · exact h.hearMember _ _
        · split
          · exact h
          · exact h.startFormation _
      · exact h
    · exact h

/-! ### SOLO and a failed formation (R35, R37, R38) -/

/-- The SOLO table takes the place of the table, and nothing else changes. -/
theorem State.consistSound.writeSoloTable (h : s.consistSound) : s.writeSoloTable.consistSound := by
  obtain ⟨-, candidates, ordering, order⟩ := s.consistSound_iff.mp h
  exact State.consistSound_of_cc s.writeSoloTable_straps ⟨s.writeSoloTable_sound, candidates, ordering, order⟩

theorem State.consistSound.setOwnCab (h : s.consistSound) (cab : OwnCab) :
    (s.setCc { s.cc with ownCab := cab }).consistSound :=
  h.of_fields rfl rfl rfl rfl rfl

/-- The own record stays in the candidate table, and the candidate order goes (R37 step 2). -/
theorem State.consistSound.enterSolo (h : s.consistSound) : s.enterSolo.consistSound := by
  obtain ⟨-, candidates, ordering, -⟩ := s.consistSound_iff.mp h
  have own : soundIds s.id ((s.cc.candidates.filter (fun r => r.id = s.id)).map RollRecord.id) := by
    have sub := (List.filter_sublist (p := fun r => decide (r.id = s.id)) (l := s.cc.candidates)).map RollRecord.id
    obtain ⟨r, hr, hid⟩ := List.mem_map.mp candidates.mem
    exact candidates.of_subset (candidates.nodup.sublist sub) sub.subset
      (List.mem_map.mpr ⟨r, List.mem_filter.mpr ⟨hr, by simpa using hid⟩, hid⟩)
  obtain ⟨ids, -, -⟩ := s.enterSolo_table
  refine State.consistSound_of_cc s.enterSolo_straps ?_
  rw [State.enterSolo_cc]
  exact ⟨ConsistTable.sound_alone _ _ ids, own, ordering, nofun⟩

theorem State.consistSound.failFormation (h : s.consistSound) (r : ReformReason) :
    (s.failFormation r).consistSound := by
  have counted : s.failCounted.consistSound := h.of_fields rfl rfl rfl rfl rfl
  obtain below | limit := Nat.lt_or_ge (s.cc.failedCount + 1) Config.failLimit
  · rw [s.failFormation_starts r below]
    exact counted.startFormation r
  · rw [s.failFormation_solo r limit]
    exact counted.enterSolo

/-! ### The own position -/

theorem positionWhere_isSome {α : Type} (test : α → Bool) (l : List α) (h : ∃ x ∈ l, test x = true) :
    ∃ p, positionWhere test l = some p := by
  induction l with
  | nil => simp at h
  | cons x xs ih =>
    rw [positionWhere]
    split
    case isTrue => exact ⟨1, rfl⟩
    case isFalse fails =>
      obtain ⟨y, hy, holds⟩ := h
      obtain rfl | hy := List.mem_cons.mp hy
      · exact absurd holds fails
      · obtain ⟨p, found⟩ := ih ⟨y, hy, holds⟩
        exact ⟨p + 1, by rw [found, Option.map_some]⟩

/-- A sound candidate order has an own position (R41). -/
theorem CandidateOrder.sound.positionOf {o : CandidateOrder} {own : NodeId} (h : o.sound own) :
    ∃ p, o.positionOf own = some p := by
  obtain ⟨ids, -⟩ := h
  obtain ⟨m, hm, hid⟩ := List.mem_map.mp ids.mem
  exact positionWhere_isSome _ _ ⟨m, hm, by simpa using hid⟩

/-! ### TALLY and FORMED (R28, R31 to R36, R49, R50) -/

theorem State.consistSound.followCab (h : s.consistSound) : s.followCab.consistSound :=
  (h.setOwnCab (cabAfterCommit s.cc.ownCab s.ownEntryCab).1).kept ⟨s.followCab_cc, s.followCab_straps⟩

/-- A commit writes the sound candidate order into the table (R36, R49). -/
theorem State.consistSound.enterFormed (h : s.consistSound) (o : CandidateOrder) (ho : o.sound s.id) :
    (s.enterFormed o).consistSound := by
  obtain ⟨-, candidates, ordering, order⟩ := s.consistSound_iff.mp h
  have committed : (s.setCc (s.cc.commit o s.now)).consistSound :=
    .setCc ⟨commitTable_sound o s.now s.id ho, candidates, ordering, order⟩
  exact committed.followCab.kept (by simp [State.enterFormed])

theorem State.consistSound.formIfAgreed (h : s.consistSound) (o : CandidateOrder) (ho : o.sound s.id) :
    (s.formIfAgreed o).consistSound := by
  unfold State.formIfAgreed
  split
  · exact h.enterFormed o ho
  · exact h

theorem State.consistSound.inTally (h : s.consistSound) (o : CandidateOrder) (ho : o.sound s.id) :
    (s.inTally o).consistSound := by
  obtain ⟨table, candidates, -, -⟩ := s.consistSound_iff.mp h
  refine State.consistSound_of_cc rfl ⟨table, candidates, nofun, fun p hp => ?_⟩
  obtain rfl := Option.some.inj hp
  exact ho

theorem State.consistSound.setAgreement (h : s.consistSound) (a : List Nat) (ts : List EarlyTally) :
    (s.setCc { s.cc with agreement := a, earlyTallies := ts }).consistSound :=
  h.of_fields rfl rfl rfl rfl rfl

theorem State.consistSound.enterTally (h : s.consistSound) (o : CandidateOrder) (ho : o.sound s.id) :
    (s.enterTally o).consistSound := by
  have entered := h.inTally o ho
  cases mismatch : earlyMismatch o s.cc.earlyTallies with
  | true =>
    rw [s.enterTally_mismatch o mismatch]
    exact entered.failFormation .mismatch
  | false =>
    obtain ⟨p, own⟩ := ho.positionOf
    obtain ⟨a, matched, -⟩ := s.enterTally_match o p own mismatch
    rw [matched]
    exact (entered.setAgreement a []).formIfAgreed o ho

/-- The order computed from the chain of a computation is sound (R28). -/
theorem State.consistSound.endOrdering (h : s.consistSound) : s.endOrdering.consistSound := by
  obtain ⟨-, -, ordering, -⟩ := s.consistSound_iff.mp h
  unfold State.endOrdering
  split
  case h_1 => exact h.of_fields rfl rfl rfl rfl rfl
  case h_2 o _ running => exact h.enterTally _ (computeOrder_sound _ _ _ (ordering o running))
  case h_3 => exact h

/-! ### ROLLs and TALLYs taken (R26, R32 to R34) -/

theorem State.consistSound.compareTally (h : s.consistSound) (sender : NodeId) (t : Tally) :
    (s.compareTally sender t).consistSound := by
  obtain ⟨-, -, -, order⟩ := s.consistSound_iff.mp h
  unfold State.compareTally
  split
  case h_2 => exact h
  case h_1 o stored =>
    split
    case h_2 => exact h
    case h_1 p _ =>
      split
      case isFalse => exact h.failFormation _
      case isTrue =>
        have agreed : (s.setCc (s.cc.agree p)).consistSound := by
          rw [Cc.agree_eq]
          exact h.of_fields rfl rfl rfl rfl rfl
        exact agreed.formIfAgreed o (order o stored)

theorem State.consistSound.takeTally (h : s.consistSound) (f : Frame) : (s.takeTally f).consistSound := by
  unfold State.takeTally
  split
  · exact h
  · split
    · exact h.of_fields rfl rfl rfl rfl rfl
    · exact h.compareTally _ _
    all_goals exact h

/-- A ROLL finds its place in the candidate table, or is an overflow (R26). -/
theorem State.consistSound.gatherRoll (h : s.consistSound) (r : RollRecord) : (s.gatherRoll r).consistSound := by
  unfold State.gatherRoll
  split
  case isTrue place =>
    rw [recordOf_isSome_iff] at place
    have gathered := h.putCandidate r place
    dsimp only
    split
    · exact gathered
    · exact gathered.testClosure
  case isFalse =>
    split
    · exact h
    · exact h.of_fields rfl rfl rfl rfl rfl

theorem State.consistSound.takeRoll (h : s.consistSound) (f : Frame) : (s.takeRoll f).consistSound := by
  unfold State.takeRoll State.compareRoll
  split
  · exact h
  · split
    case h_1 => exact h.gatherRoll _
    case h_2 | h_3 =>
      split
      · split
        · exact h
        · exact h.startFormation _
      · exact h
    all_goals exact h

/-! ### Received frames (R78 to R80, R86) -/

theorem State.consistSound.consume (h : s.consistSound) (f : Frame) : (s.consume f).consistSound := by
  unfold State.consume
  cases f.kind with
  | reform | hold => exact h
  | roll => exact h.takeRoll f
  | tally => exact h.takeTally f
  | doorcmd => exact h.kept (s.takeDoorcmd_keepsCc f)
  | doorstat => exact h.kept (s.takeDoorstat_keepsCc f)
  | heatbid => exact h.kept (s.takeHeatbid_keepsCc f)

theorem State.consistSound.takeHead (h : s.consistSound) (f : Frame) (rest : List Frame) :
    (s.takeHead f rest).consistSound := by
  have fallen : ((s.setRxp { s.rxp with queue := rest }).noteFall rest.length).consistSound := h.kept (by simp)
  unfold State.takeHead
  dsimp only
  split
  · exact fallen.consume f
  · exact fallen.kept (by simp)

theorem State.consistSound.endReception (h : s.consistSound) (r : Reception) :
    (s.endReception r).consistSound := by
  unfold State.endReception State.routeFrame
  split
  case h_2 => exact h.kept (by simp)
  case h_1 f _ =>
    split
    · exact h.kept (by simp)
    · split
      · have counted : (s.count .framesReceived).consistSound := h.kept (by simp)
        exact (counted.sight f).kept (by simp [State.acceptFrame])
      · exact h.kept (by simp)

/-! ### End links (R6 to R10) -/

theorem State.consistSound.reportAdjacency (h : s.consistSound) : s.reportAdjacency.consistSound := by
  by_cases start : s.cc.formState = .start
  · rw [s.reportAdjacency_start start]
    exact h
  · rw [s.reportAdjacency_running start]
    exact h.startFormation _

theorem State.consistSound.arriveBeacon (h : s.consistSound) (e : CoachEnd) (bytes : List Byte) :
    (s.arriveBeacon e bytes).consistSound := by
  unfold State.arriveBeacon State.takeBeacon
  split
  case h_2 => exact h.kept (by simp)
  case h_1 n _ =>
    have paired : (s.setEnd e ((s.endLink e).pair n s.now)).consistSound := h.kept (by simp)
    dsimp only
    split
    · exact paired
    · exact paired.reportAdjacency

theorem State.consistSound.receiveChar (h : s.consistSound) (e : CoachEnd) (c : LineChar) :
    (s.receiveChar e c).consistSound := by
  unfold State.receiveChar
  split
  · exact h
  · dsimp only
    split
    · exact State.consistSound.arriveBeacon (h.kept (by simp)) _ _
    · exact h.kept (by simp)

theorem State.consistSound.receiveChars (h : s.consistSound) (e : CoachEnd) (chars : List LineChar) :
    (s.receiveChars e chars).consistSound := by
  unfold State.receiveChars
  induction chars generalizing s with
  | nil => exact h
  | cons c cs ih => exact ih (h.receiveChar e c)

/-! ### CAB requests (R21, R38, R173) -/

theorem State.consistSound.acceptCab (h : s.consistSound) (claim : Bool) : (s.acceptCab claim).consistSound := by
  unfold State.acceptCab
  split
  case h_1 => exact (h.setOwnCab .active).writeSoloTable.post _
  case h_2 => exact (h.setOwnCab .noClaim).writeSoloTable
  all_goals exact (h.setOwnCab _).startFormation _

theorem State.consistSound.cabRequest (h : s.consistSound) (code : Byte) :
    (s.cabRequest code).1.consistSound := by
  unfold State.cabRequest
  split
  · exact h
  · split
    · exact h
    · split
      · exact h
      · split
        · exact h
        · exact h.acceptCab _

/-! ### When a command acts (R169; log entries 1 and 2) -/

theorem State.consistSound.onOccasion (h : s.consistSound) (o : Option Time) {act : State → State}
    (keeps : ∀ t : State, t.consistSound → (act t).consistSound) : (s.onOccasion o act).consistSound := by
  obtain same | ⟨t, -, -, acts⟩ := s.onOccasion_cases o act
  · rwa [same]
  · rw [acts]
    exact keeps _ (h.kept (by simp))

theorem State.consistSound.inService (h : s.consistSound) {act : State → State}
    (keeps : ∀ t : State, t.consistSound → (act t).consistSound) : (s.inService act).consistSound := by
  cases hr : s.inReset
  · rw [s.inService_running act hr]
    exact keeps s h
  · rwa [s.inService_inReset act hr]

theorem State.consistSound.takeRequest (h : s.consistSound) {act : State → State × List Byte}
    (keeps : ∀ t : State, t.consistSound → (act t).1.consistSound) : (s.takeRequest act).consistSound :=
  (keeps s h).kept (by simp [State.takeRequest])

theorem State.consistSound.onRequest (h : s.consistSound) (i : Instr) {act : State → State × List Byte}
    (keeps : ∀ t : State, t.consistSound → (act t).1.consistSound) : (s.onRequest i act).consistSound := by
  obtain same | acts | acts := s.onRequest_cases i act
  · rwa [same]
  · rw [acts]
    exact h.takeRequest keeps
  · rw [acts]
    exact State.consistSound.takeRequest (h.kept (by simp)) keeps

end Kept

/-! ### Every command -/

/-- The state of an outcome, if it is one, has a sound consist. -/
def keepsConsist (o : Host.Outcome State Fault Refusal) : Prop := ∀ t, o = .next t → t.consistSound

theorem keepsConsist_next {t : State} (h : t.consistSound) : keepsConsist (.next t) := by
  intro u hu
  exact Host.Outcome.next.inj hu ▸ h

/-- An operation that leaves the CC and the straps of every state. -/
def keepsCc (act : State → State) : Prop := ∀ t : State, (act t).cc = t.cc ∧ (act t).straps = t.straps

section Commands

variable {s : State}

/-- An event of the node's own that leaves the CC. -/
theorem keepsConsist_occasion (h : s.consistSound) (o : Option Time) {act : State → State} (quiet : keepsCc act) :
    keepsConsist (.next (s.onOccasion o act)) :=
  keepsConsist_next (h.onOccasion o fun t ht => ht.kept (quiet t))

/-- An event from outside that leaves the CC. -/
theorem keepsConsist_service (h : s.consistSound) {act : State → State} (quiet : keepsCc act) :
    keepsConsist (.next (s.inService act)) :=
  keepsConsist_next (h.inService fun t ht => ht.kept (quiet t))

/-- A request that leaves the CC. -/
theorem keepsConsist_request (h : s.consistSound) (i : Instr) {act : State → State × List Byte}
    (quiet : keepsCc (fun t => (act t).1)) : keepsConsist (.next (s.onRequest i act)) :=
  keepsConsist_next (h.onRequest i fun t ht => ht.kept (quiet t))

theorem State.consistSound.setPins (h : s.consistSound) (p : Pins) : (s.setPins p).consistSound :=
  h.kept ⟨rfl, rfl⟩

/-- The reset values hold the own record alone (R40, R57). -/
theorem Cc.atRelease_sound (st : Straps) : (Cc.atRelease st).sound st.serial :=
  ⟨ConsistTable.sound_alone _ _ rfl, soundIds_alone _, nofun, nofun⟩

theorem execExternalResetAssert_keepsConsist (h : s.consistSound) :
    keepsConsist (execExternalResetAssert s) := by
  refine keepsConsist_next ?_
  split
  · exact h
  · obtain ⟨table, candidates, ordering, order⟩ := Cc.atRelease_sound s.straps
    exact s.asserted.consistSound_iff.mpr ⟨table, candidates, ordering, order⟩

theorem execExternalResetRelease_keepsConsist (p : StrapPins) : keepsConsist (execExternalResetRelease p s) :=
  keepsConsist_next ((State.consistSound_iff _).mpr (Cc.atRelease_sound (Straps.latch p)))

/-- The repeat restarts its timer and submits the TALLY of the candidate order (R31). -/
theorem execTallyRepeat_keepsConsist (h : s.consistSound) : keepsConsist (execTallyRepeat s) := by
  refine keepsConsist_next (h.onOccasion _ fun t ht => ?_)
  split
  · exact ht.of_fields rfl rfl rfl rfl rfl
  · exact ht

theorem execRollRepeat_keepsConsist (h : s.consistSound) : keepsConsist (execRollRepeat s) := by
  refine keepsConsist_next (h.onOccasion _ fun t ht => State.consistSound.renewOwnRecord ?_)
  exact ht.of_fields rfl rfl rfl rfl rfl

theorem execMemberSilent_keepsConsist (h : s.consistSound) (p : Nat) : keepsConsist (execMemberSilent p s) := by
  refine keepsConsist_next (h.onOccasion _ fun t ht => State.consistSound.post ?_ _)
  obtain ⟨table, candidates, ordering, order⟩ := t.consistSound_iff.mp ht
  exact .setCc ⟨table.of_members (ConsistTable.silence_members _ p), candidates, ordering, order⟩

/-- The end of the carrier of other nodes ends a reception (R77, R78). -/
theorem execFrameArrival_keepsConsist (h : s.consistSound) (r : Reception) :
    keepsConsist (execFrameArrival r s) := by
  refine keepsConsist_next ?_
  split
  case isFalse => exact h
  case isTrue =>
    refine State.consistSound.inService (h.setPins _) fun t ht => ?_
    dsimp only
    split
    · refine State.consistSound.endReception ?_ r
      exact ht.kept ⟨rfl, rfl⟩
    · exact ht.kept ⟨rfl, rfl⟩

theorem execFrameTake_keepsConsist (h : s.consistSound) : keepsConsist (execFrameTake s) := by
  refine keepsConsist_next (h.onOccasion _ fun t ht => ?_)
  split
  · exact ht.takeHead _ _
  · exact ht

theorem execUnknownRequest_keepsConsist (h : s.consistSound) (kind : Byte) :
    keepsConsist (execUnknownRequest kind s) := by
  refine keepsConsist_next ?_
  split
  · exact h.onRequest _ fun _ ht => ht
  · unfold State.clockByte
    split
    · exact h
    · exact h.kept ⟨rfl, rfl⟩

/-- A rise of chip select ends the transaction alone (R169). -/
theorem execChipSelectRise_keepsConsist (h : s.consistSound) : keepsConsist (execChipSelectRise s) := by
  refine keepsConsist_next ?_
  split
  · exact State.consistSound.inService (h.setPins _) fun t ht => ht.kept ⟨rfl, rfl⟩
  · exact h

theorem execChipSelectFall_keepsConsist (h : s.consistSound) : keepsConsist (execChipSelectFall s) := by
  refine keepsConsist_next ?_
  split
  · exact h
  · exact State.consistSound.inService (h.setPins _) fun t ht => ht.kept ⟨rfl, rfl⟩

/-- Every command keeps the consist sound: those of the CC by their lemmas, the others leave the CC. -/
theorem exec_keepsConsist (h : s.consistSound) (i : Instr) : keepsConsist (exec i s) := by
  cases i with
  | externalResetAssert => exact execExternalResetAssert_keepsConsist h
  | externalResetRelease pins => exact execExternalResetRelease_keepsConsist pins
  | debouncedContactLost | beaconLoss =>
    exact keepsConsist_next (h.onOccasion _ fun t ht => State.consistSound.reportAdjacency (ht.kept (by simp)))
  | endBeaconArrival e chars => exact keepsConsist_next (h.inService fun t ht => ht.receiveChars e chars)
  | tstartExpiry => exact keepsConsist_next (h.onOccasion _ fun t ht => ht.startFormation _)
  | rollRepeat => exact execRollRepeat_keepsConsist h
  | gatherTimeout => exact keepsConsist_next (h.onOccasion _ fun t ht => ht.startOrdering true)
  | orderingEnd => exact keepsConsist_next (h.inService fun t ht => ht.endOrdering)
  | tallyRepeat => exact execTallyRepeat_keepsConsist h
  | tallyTimeout => exact keepsConsist_next (h.onOccasion _ fun t ht => ht.failFormation _)
  | memberSilent position => exact execMemberSilent_keepsConsist h position
  | reform => exact keepsConsist_next (h.onRequest _ fun t ht => ht.startFormation _)
  | cabClaim code | cabRelease code => exact keepsConsist_next (h.onRequest _ fun t ht => ht.cabRequest code)
  | frameArrival reception => exact execFrameArrival_keepsConsist h reception
  | frameTake => exact execFrameTake_keepsConsist h
  | unknownRequest kind => exact execUnknownRequest_keepsConsist h kind
  | chipSelectRise => exact execChipSelectRise_keepsConsist h
  | chipSelectFall => exact execChipSelectFall_keepsConsist h
  | rawContactChange => exact keepsConsist_service (h.setPins _) fun t => by simp
  | carrierOnset | rawLeafInputChange => exact keepsConsist_service (h.setPins _) fun t => by split <;> simp
  | allocationEnd | responseReady => exact keepsConsist_service h fun t => by split <;> simp
  | debouncedContactActive | endBeaconSend | faultyReception | transmitTake | breakthroughEligible | collision
  | backoffExpiry | holdResend | ownHoldExpiry | holdExpiry | aMatch | bMatch | pwmCompareA | pwmPeriodEnd
  | doorcmdRepeat | doorstatPeriod | doorstatStale | heatbidPeriod | bidStale | settleExpiry | holdOverExpiry =>
    exact keepsConsist_occasion h _ fun t => by simp
  | retryAttempt | leafInputFiltered | lockComplete | unlockFault | leafRecovery =>
    exact keepsConsist_occasion h _ fun t => by split <;> simp
  | frameSent | jamEnd => exact keepsConsist_occasion h _ fun t => by split <;> simp [State.stopDriving]
  | lineReset | isolateOn | isolateOff | doorIssueRelease | doorIssueClose | heatDemand | supplyOffer | status
  | straps =>
    exact keepsConsist_request h _ fun t => by simp
  | consistRead | noticeTake | counterRead | counterDecrement =>
    exact keepsConsist_request h _ fun t => by dsimp only; split <;> simp

end Commands

/-- Settles O8: by the command at the front of the queue, or by the node's own time on an empty queue. -/
theorem consistSoundKept : Obligations.ConsistSoundKept := by
  intro s t h next
  unfold step at next
  split at next
  case h_1 c rest _ =>
    have waits : ({ s with pending := rest } : State).consistSound := h
    exact exec_keepsConsist waits c t next
  case h_2 =>
    obtain rfl := Host.Outcome.next.inj next
    unfold State.idle
    split
    · exact h
    · exact h.kept ⟨rfl, rfl⟩

end Sys2Proof.Machine
end

section
/-! SUPPORT. The transmitter's part of the line access: the dispatcher's arms, an issue of the repeat schedule whose
copy ends, the results of a frame that leaves the transmitter, and the number check of an attempt (R67, R74, R132,
R133). -/

namespace Sys2Proof.Machine

/-! ### The dispatcher, for the commands of this part -/

theorem exec_transmitTake (s : State) : exec .transmitTake s = execTransmitTake s := rfl

theorem exec_breakthroughEligible (s : State) : exec .breakthroughEligible s = execBreakthroughEligible s := rfl

theorem exec_frameSent (s : State) : exec .frameSent s = execFrameSent s := rfl

theorem exec_collision (p : Nat) (s : State) : exec (.collision p) s = execCollision p s := rfl

theorem exec_jamEnd (s : State) : exec .jamEnd s = execJamEnd s := rfl

theorem exec_backoffExpiry (s : State) : exec .backoffExpiry s = execBackoffExpiry s := rfl

theorem exec_retryAttempt (s : State) : exec .retryAttempt s = execRetryAttempt s := rfl

/-! ### The issue whose copy ends (R132, R133) -/

/-- An entry goes on to space before its third copy has ended. -/
theorem Issue.copyEnded_early (i : Issue) (now : Time) (h : i.ended < 2) :
    i.copyEnded now = some { i with ended := i.ended + 1, phase := .spacing (now + Config.ms 20) } :=
  if_neg (Nat.not_le.mpr (Nat.succ_lt_succ h))

/-- An entry leaves with its third copy. -/
theorem Issue.copyEnded_third (i : Issue) (now : Time) (h : 2 ≤ i.ended) : i.copyEnded now = none :=
  if_pos (Nat.succ_le_succ h)

theorem Issue.owns_eq_true_iff (i : Issue) (f : Frame) : i.owns f = true ↔ i.frame = f ∧ i.phase = .inStore := by
  simp [Issue.owns]

/-- The change meets the first entry that satisfies the test. -/
theorem updateFirst_first (test : Issue → Bool) (change : Issue → Option Issue) (pre is : List Issue) (i : Issue)
    (before : ∀ j ∈ pre, test j = false) (here : test i = true) :
    updateFirst test change (pre ++ i :: is) = pre ++ ((change i).toList ++ is) := by
  induction pre with
  | nil =>
    rw [List.nil_append, updateFirst, if_pos here]
    cases change i <;> rfl
  | cons j pre ih =>
    obtain ⟨notHere, before⟩ := List.forall_mem_cons.mp before
    rw [List.cons_append, updateFirst, if_neg (by simp [notHere]), ih before, List.cons_append]

/-- The entry of the schedule whose copy a frame is, with the entries before and after it. -/
structure State.IssueOf (s : State) (f : Frame) (pre : List Issue) (i : Issue) (is : List Issue) : Prop where
  schedule : s.dcu.schedule = pre ++ i :: is
  before : ∀ j ∈ pre, j.frame ≠ f
  frame : i.frame = f
  phase : i.phase = .inStore

section IssueOf

variable {s : State} {f : Frame} {pre is : List Issue} {i : Issue}

theorem State.IssueOf.owned (h : s.IssueOf f pre i is) : i.owns f = true :=
  (i.owns_eq_true_iff f).mpr ⟨h.frame, h.phase⟩

theorem State.IssueOf.notOwned (h : s.IssueOf f pre i is) (j : Issue) (hj : j ∈ pre) : j.owns f = false :=
  Bool.eq_false_iff.mpr fun owned => h.before j hj ((j.owns_eq_true_iff f).mp owned).1

/-- The entry is changed in its place. -/
theorem State.IssueOf.updateFirst (h : s.IssueOf f pre i is) (change : Issue → Option Issue) :
    updateFirst (fun j => j.owns f) change s.dcu.schedule = pre ++ ((change i).toList ++ is) := by
  rw [h.schedule]
  exact updateFirst_first _ change pre is i h.notOwned h.owned

/-- The end of a copy: the next one is due in 20 ms, or the issue leaves with its third (R132). -/
theorem State.IssueOf.copyEnded_dcu (h : s.IssueOf f pre i is) :
    (i.ended < 2 → (s.copyEnded f).dcu = { s.dcu with schedule :=
        pre ++ { i with ended := i.ended + 1, phase := .spacing (s.now + Config.ms 20) } :: is })
      ∧ (2 ≤ i.ended → (s.copyEnded f).dcu = { s.dcu with schedule := pre ++ is }) := by
  unfold State.copyEnded
  rw [State.setDcu_dcu, h.updateFirst]
  constructor <;> intro ended
  · rw [i.copyEnded_early s.now ended]
    rfl
  · rw [i.copyEnded_third s.now ended]
    rfl

/-- The entry is the first one found for the frame. -/
theorem State.IssueOf.find (h : s.IssueOf f pre i is) : s.dcu.schedule.find? (fun j => j.owns f) = some i :=
  List.find?_eq_some_iff_append.mpr ⟨h.owned, pre, is, h.schedule, fun j hj => by simp [h.notOwned j hj]⟩

end IssueOf

/-! ### Results (R74, R89, R132, R133, R151) -/

theorem State.giveResult_stale (s : State) (f : Frame) :
    s.giveResult f .stale = if f.kind = .doorcmd then s.copyStale f else s := by
  unfold State.giveResult
  cases f.kind <;> rfl

/-- What STALE does to the DCU and the port: for the copy of an issue, the issue leaves and ISSUE_VOID is posted
(R133). -/
def voidsIssue (s : State) (f : Frame) (dcu : Dcu) (port : Port) : Prop :=
  ∀ pre i is, s.IssueOf f pre i is → f.kind = .doorcmd →
    dcu.schedule = pre ++ is
      ∧ (s.port.notices.length < 16 → port.notices = s.port.notices ++ [.issueVoid i.seq])

/-- STALE touches the DCU and the notices alone, and voids the issue of the frame. -/
theorem State.giveResult_stale_eq (s : State) (f : Frame) :
    ∃ dcu port, s.giveResult f .stale = (s.setDcu dcu).setPort port ∧ port.counters = s.port.counters
      ∧ voidsIssue s f dcu port := by
  rw [s.giveResult_stale f]
  split
  case isTrue =>
    unfold State.copyStale
    split
    case h_1 i found =>
      refine ⟨_, _, rfl, Port.post_counters _ _, fun pre j is issue _ => ?_⟩
      obtain rfl : j = i := Option.some.inj (issue.find.symm.trans found)
      exact ⟨issue.updateFirst _, State.post_notices (s.setDcu _) _⟩
    case h_2 none =>
      exact ⟨s.dcu, s.port, rfl, rfl, fun pre j is issue _ => nomatch issue.find.symm.trans none⟩
  case isFalse other => exact ⟨s.dcu, s.port, rfl, rfl, fun _ _ _ _ kind => absurd kind other⟩

/-- SENT for a HOLD counts, and stops or starts the own-hold timer (R89). -/
theorem State.holdSent_eq (s : State) (f : Frame) :
    s.holdSent f = (s.count .holdsSent).setLhu
      (if holdOf f.payload = 0 then s.lhu.stopOwnHold
        else if s.lhu.congested = true then s.lhu.startOwnHold s.now else s.lhu) := by
  unfold State.holdSent
  dsimp only
  split
  · rfl
  · rw [apply_ite (State.setLhu _)]
    rfl

section Sent

variable (s : State) (f : Frame)

@[simp] theorem State.giveResult_sent_lau : (s.giveResult f .sent).lau = s.lau := by
  unfold State.giveResult
  cases f.kind with
  | hold => simp [s.holdSent_eq f]
  | reform | roll | tally | doorcmd | doorstat | heatbid => rfl

/-- SENT sets the time of the last bid for a HEATBID alone (R151). -/
theorem State.giveResult_sent_hsu :
    (s.giveResult f .sent).hsu =
      if f.kind = .heatbid then { s.hsu with lastBidSent := some s.now } else s.hsu := by
  unfold State.giveResult
  cases f.kind with
  | hold => simp [s.holdSent_eq f]
  | reform | roll | tally | doorcmd | doorstat | heatbid => rfl

/-- SENT changes the LHU for a HOLD alone (R89). -/
theorem State.giveResult_sent_lhu :
    (s.giveResult f .sent).lhu =
      if f.kind = .hold then
        if holdOf f.payload = 0 then s.lhu.stopOwnHold
        else if s.lhu.congested = true then s.lhu.startOwnHold s.now else s.lhu
      else s.lhu := by
  unfold State.giveResult
  cases f.kind with
  | hold => simp [s.holdSent_eq f]
  | reform | roll | tally | doorcmd | doorstat | heatbid => rfl

/-- SENT changes the DCU for a copy alone (R132). -/
theorem State.giveResult_sent_dcu :
    (s.giveResult f .sent).dcu = if f.kind = .doorcmd then (s.copyEnded f).dcu else s.dcu := by
  unfold State.giveResult
  cases f.kind with
  | hold => simp [s.holdSent_eq f]
  | reform | roll | tally | doorcmd | doorstat | heatbid => rfl

/-- SENT counts for a HOLD alone (R89). -/
theorem State.giveResult_sent_port :
    (s.giveResult f .sent).port = if f.kind = .hold then (s.count .holdsSent).port else s.port := by
  unfold State.giveResult
  cases f.kind with
  | hold => simp [s.holdSent_eq f]
  | reform | roll | tally | doorcmd | doorstat | heatbid => rfl

end Sent

/-- The hold time of the HOLDs that ask peers to hold (R88). -/
theorem holdOf_sent : holdOf (holdPayload Config.holdSendMs) = 200 := by decide

/-- A lost HOLD is submitted again while congested (R89). -/
theorem State.holdLost_eq (s : State) (f : Frame) :
    ∃ slot, s.holdLost f = s.setLau { s.lau with holdSlot := slot }
      ∧ (holdOf f.payload ≠ 0 → s.lhu.congested = true →
          ∃ g, slot = some g ∧ g.kind = .hold ∧ holdOf g.payload = 200) := by
  unfold State.holdLost
  split
  case isTrue => exact ⟨_, rfl, fun _ _ => ⟨_, rfl, rfl, holdOf_sent⟩⟩
  case isFalse kept =>
    exact ⟨s.lau.holdSlot, rfl, fun positive congested => absurd ⟨positive, congested⟩ kept⟩

/-- ABANDONED or LATE: a HOLD that is lost, a copy that has ended, or nothing. -/
theorem State.giveResult_givenUp_eq (s : State) (f : Frame) (r : TxResult) (h : r = .abandoned ∨ r = .late) :
    ∃ slot dcu, s.giveResult f r = (s.setLau { s.lau with holdSlot := slot }).setDcu dcu
      ∧ (f.kind = .hold → holdOf f.payload ≠ 0 → s.lhu.congested = true →
          ∃ g, slot = some g ∧ g.kind = .hold ∧ holdOf g.payload = 200)
      ∧ (f.kind = .doorcmd → dcu = (s.copyEnded f).dcu) := by
  have result : s.giveResult f r =
      if f.kind = .hold then s.holdLost f else if f.kind = .doorcmd then s.copyEnded f else s := by
    unfold State.giveResult
    obtain rfl | rfl := h <;> cases f.kind <;> rfl
  rw [result]
  split
  case isTrue hold =>
    obtain ⟨slot, lost, again⟩ := s.holdLost_eq f
    exact ⟨slot, s.dcu, lost, fun _ => again, by simp [hold]⟩
  case isFalse other =>
    refine ⟨s.lau.holdSlot, if f.kind = .doorcmd then (s.copyEnded f).dcu else s.dcu, ?_,
      fun hold => absurd hold other, fun door => if_pos door⟩
    split <;> rfl

/-! ### Attempts (R67, R77) -/

theorem passesNumberCheck_eq_true_iff (n : FormationNumber) (f : Frame) :
    passesNumberCheck n f = true ↔ f.number = n ∨ f.isClose = true ∨ f.kind = .hold := by
  simp [passesNumberCheck, or_assoc]

/-- A frame that passes is sent, and a reception in progress is discarded. -/
theorem State.attempt_sends (s : State) (c : CurrentFrame)
    (h : c.frame.number = s.cc.number ∨ c.frame.isClose = true ∨ c.frame.kind = .hold) :
    s.attempt c =
      (s.setLau { s.lau with tx := .send s.now, current := some c }).setRxp { s.rxp with receiving := false } :=
  if_pos ((passesNumberCheck_eq_true_iff _ _).mpr h)

/-- A frame that fails is dropped with STALE: the transmitter is READY, and an issue of the frame is voided. -/
theorem State.attempt_drops (s : State) (c : CurrentFrame)
    (h : ¬(c.frame.number = s.cc.number ∨ c.frame.isClose = true ∨ c.frame.kind = .hold)) :
    ∃ dcu port, s.attempt c = ((s.setLau s.lau.toReady).setDcu dcu).setPort port
      ∧ port.counters = s.port.counters ∧ voidsIssue s c.frame dcu port := by
  obtain ⟨dcu, port, dropped, counters, voids⟩ := (s.setLau s.lau.toReady).giveResult_stale_eq c.frame
  refine ⟨dcu, port, (if_neg (mt (passesNumberCheck_eq_true_iff _ _).mp h)).trans dropped, counters, ?_⟩
  rintro pre i is ⟨schedule, before, frame, phase⟩
  exact voids pre i is ⟨schedule, before, frame, phase⟩

/-- With no carrier the gap of a frame is reached when the idle time comes to it (R65, R66). -/
theorem State.gapOccasion_idle (s : State) (f : Frame) (h : s.carrier = false) :
    s.gapOccasion f = some (s.lau.idleFrom + s.lau.gap f) :=
  if_neg (by simp [h])

end Sys2Proof.Machine
end

section
/-! The settled statements about carrier, takes and retries (R63 to R67, R70, R74, R77, R133). -/

namespace Sys2Proof.Machine

/-! ### CARRIER_ONSET (R65, R77) -/

/-- Other nodes' carrier holds off every gap (R65). -/
theorem State.gapOccasion_carrier (s : State) (f : Frame) (h : s.pins.peerCarrier = true) :
    s.gapOccasion f = none :=
  if_pos (by simp [State.carrier, h])

theorem State.takeOccasion_carrier (s : State) (h : s.pins.peerCarrier = true) : s.takeOccasion = none := by
  simp [State.takeOccasion, s.gapOccasion_carrier _ h]

theorem State.retryOccasion_carrier (s : State) (h : s.pins.peerCarrier = true) : s.retryOccasion = none := by
  simp [State.retryOccasion, s.gapOccasion_carrier _ h]

/-- After CARRIER_ONSET the pin is active, in external reset too. -/
theorem exec_carrierOnset_pin (s u : State) (h : exec .carrierOnset s = .next u) : u.pins.peerCarrier = true := by
  rw [exec_carrierOnset, execCarrierOnset] at h
  obtain rfl := Host.Outcome.next.inj h
  unfold State.inService
  split
  · rfl
  · split <;> rfl

/-- Settles O34: a reception begins on an idle line alone, and the pin holds off every gap. -/
theorem carrierDefersAndReceives : Obligations.CarrierDefersAndReceives := by
  refine ⟨fun s hr quiet silent => ?begins, fun s hr busy => ?none, fun s u f h => ?defers⟩
  case begins =>
    have idle : s.carrier = false := by simp [State.carrier, quiet, silent]
    rw [exec_carrierOnset, execCarrierOnset, State.inService_running _ _ (by simpa using hr), idle]
    rfl
  case none =>
    have carrier : s.carrier = true := by simpa [State.carrier] using busy
    rw [exec_carrierOnset, execCarrierOnset, State.inService_running _ _ (by simpa using hr), carrier]
    rfl
  case defers =>
    have pin := exec_carrierOnset_pin s u h
    exact ⟨u.gapOccasion_carrier f pin, u.takeOccasion_carrier pin, u.retryOccasion_carrier pin⟩

/-! ### TRANSMIT_TAKE (R63, R64) -/

@[simp] theorem State.advanceTo_held (s : State) (t : Time) : (s.advanceTo t).held = s.held := rfl

/-- The state in which a candidate that was taken from its place is attempted (R63, R64). -/
def State.taken (s : State) (place : StorePlace) (f : Frame) : State :=
  let s := s.setLau (s.lau.removeHead place)
  if f.kind = .heatbid ∧ s.held then s.count .holdBreakthroughs else s

/-- A take changes the transmit store, and counts a breakthrough alone. -/
theorem State.taken_eq (s : State) (place : StorePlace) (f : Frame) :
    ∃ port, s.taken place f = (s.setLau (s.lau.removeHead place)).setPort port
      ∧ port.counters = (if f.kind = .heatbid ∧ s.held = true
          then s.port.counters.set 9 (s.port.counter 9 + 1) else s.port.counters)
      ∧ (f.kind ≠ .heatbid → port = s.port) := by
  unfold State.taken
  dsimp only
  split
  case isTrue breakthrough =>
    exact ⟨_, rfl, (Port.count_counters _ _).trans (if_pos breakthrough).symm,
      fun other => absurd breakthrough.left other⟩
  case isFalse none => exact ⟨s.port, rfl, (if_neg none).symm, fun _ => rfl⟩

theorem State.takeCandidate_some (s : State) (place : StorePlace) (f : Frame) (h : s.candidate = some (place, f)) :
    s.takeCandidate =
      (s.taken place f).attempt { frame := f, collisions := 0, late := false, cut := .uncut } := by
  unfold State.takeCandidate
  rw [h]
  rfl

/-- Settles O31: the candidate is attempted in the state that its take leaves. -/
theorem transmitTakeChecksNumber : Obligations.TransmitTakeChecksNumber := by
  intro s t place f hr occasion candidate
  rw [exec_transmitTake, execTransmitTake, occasion, State.onOccasion_some _ _ _ hr,
    State.takeCandidate_some _ place f candidate]
  refine ⟨_, rfl, ?_⟩
  obtain ⟨port, taken, counters, quiet⟩ := (s.advanceTo t).taken_eq place f
  rw [State.advanceTo_held, State.advanceTo_port] at counters
  rw [taken]
  by_cases passes : f.number = s.cc.number ∨ f.isClose = true ∨ f.kind = .hold
  · rw [State.attempt_sends _ _ passes]
    exact ⟨fun _ => ⟨rfl, by simp, by simp⟩, fun fails => absurd passes fails, counters, by simp⟩
  · obtain ⟨dcu, port', dropped, sameCounters, voids⟩ :=
      State.attempt_drops (((s.advanceTo t).setLau _).setPort port)
        { frame := f, collisions := 0, late := false, cut := .uncut } passes
    rw [dropped]
    refine ⟨fun holds => absurd holds passes, fun _ => ⟨rfl, by simp, ?_⟩, sameCounters.trans counters, by simp⟩
    intro pre i is schedule before kind frame phase
    obtain rfl : port = s.port := quiet (by simp [kind])
    exact voids pre i is ⟨schedule, before, frame, phase⟩ kind

/-! ### RETRY_ATTEMPT (R67) -/

theorem exec_retryAttempt_eq (s : State) (c : CurrentFrame) (hr : s.inReset = false) (tx : s.lau.tx = .rewait)
    (current : s.lau.current = some c) (idle : s.carrier = false) :
    exec .retryAttempt s = .next ((s.advanceTo (s.lau.idleFrom + s.lau.gap c.frame)).attempt c) := by
  have occasion : s.retryOccasion = some (s.lau.idleFrom + s.lau.gap c.frame) := by
    simp [State.retryOccasion, tx, current, s.gapOccasion_idle c.frame idle]
  rw [exec_retryAttempt, execRetryAttempt, occasion, State.onOccasion_some _ _ _ hr]
  simp only [State.advanceTo_lau, current]

/-- Settles O32: a retry is an attempt of the current frame. -/
theorem retryChecksNumberAgain : Obligations.RetryChecksNumberAgain := by
  rintro s t c hr tx current idle rfl
  rw [exec_retryAttempt_eq s c hr tx current idle]
  refine ⟨fun passes => ?sent, fun fails => ?dropped⟩
  case sent =>
    rw [State.attempt_sends (s.advanceTo _) c passes, ← current]
    rfl
  case dropped =>
    obtain ⟨dcu, port, dropped, sameCounters, voids⟩ := State.attempt_drops (s.advanceTo _) c fails
    rw [dropped]
    refine ⟨_, rfl, rfl, sameCounters, rfl, rfl, rfl, fun pre i is schedule before kind frame phase => ?_⟩
    exact voids pre i is ⟨schedule, before, frame, phase⟩ kind

/-! ### BREAKTHROUGH_ELIGIBLE, gaps and back-off (R64, R66, R70) -/

/-- The breakthrough condition once a bid was sent (R64). -/
theorem State.breakthrough_iff (s : State) (t : Time) (h : s.hsu.lastBidSent = some t) :
    s.breakthrough = true ↔ t + Config.tBREAK ≤ s.now := by
  simp [State.breakthrough, h]

theorem State.held_iff (s : State) : s.held = true ↔ s.lhu.holds ≠ [] := by
  simp [State.held]

/-- With the other places empty the candidate is the SUPPLY head while it is eligible (R63, R64). -/
theorem State.candidate_supply (s : State) (f : Frame) (rest : List Frame) (supply : s.lau.supply = f :: rest)
    (reform : s.lau.reformSlot = none) (hold : s.lau.holdSlot = none) (safety : s.lau.safety = [])
    (consist : s.lau.consist = []) :
    s.candidate = if s.supplyEligible then some (.supply, f) else none := by
  simp [State.candidate, supply, reform, hold, safety, consist]

/-- A gap is the short one for the urgent kinds and in a store of six frames (R66). -/
theorem Lau.gap_eq (l : Lau) (f : Frame) :
    l.gap f = if f.kind.isUrgent = true ∨ 6 ≤ l.storeCount then 32 else 64 := rfl

theorem FrameKind.isUrgent_eq_true_iff (k : FrameKind) :
    k.isUrgent = true ↔ k = .reform ∨ k = .hold ∨ k = .doorcmd ∨ k = .doorstat := by
  cases k <;> simp [FrameKind.isUrgent]

/-- A draw lies in its range (R70). -/
theorem backoffSlots_le (serial : NodeId) (k n : Nat) : backoffSlots serial k n ≤ 2 ^ min n 6 - 1 :=
  Nat.le_sub_one_of_lt (Nat.mod_lt _ (Nat.two_pow_pos _))

/-- Settles O33: eligibility is a comparison with the time, the gap two cases, and the draw a remainder. -/
theorem gapsBreakthroughAndBackoffRange : Obligations.GapsBreakthroughAndBackoffRange := by
  refine ⟨?breakthrough, fun l f => ?gap, backoffSlots_le⟩
  case breakthrough =>
    intro s t f rest hr holds sent early supply
    have held : s.held = true := s.held_iff.mpr holds
    have notYet : s.breakthrough = false := Bool.eq_false_iff.mpr fun broken =>
      Nat.not_le.mpr early ((s.breakthrough_iff t sent).mp broken)
    have notEligible : s.supplyEligible = false := by simp [State.supplyEligible, held, notYet]
    have occasion : s.breakthroughOccasion = some (t + Config.ms 2000) := by
      rw [State.breakthroughOccasion, if_pos ⟨held, notYet, by simp [supply]⟩, sent]
      rfl
    have broken : (s.advanceTo (t + Config.ms 2000)).breakthrough = true :=
      (State.breakthrough_iff (s.advanceTo _) t sent).mpr (Nat.le_max_right _ _)
    have eligible : (s.advanceTo (t + Config.ms 2000)).supplyEligible = true := by simp [State.supplyEligible, broken]
    refine ⟨notEligible, ?_, eligible, fun reform hold safety consist => ⟨?_, ?_⟩⟩
    · rw [exec_breakthroughEligible, execBreakthroughEligible, occasion, State.onOccasion_some _ _ _ hr]
    · rw [s.candidate_supply f rest supply reform hold safety consist, notEligible]
      rfl
    · rw [State.candidate_supply (s.advanceTo _) f rest supply reform hold safety consist, eligible]
      rfl
  case gap =>
    rw [l.gap_eq f]
    refine ⟨fun urgent => if_pos (.inl (f.kind.isUrgent_eq_true_iff.mpr urgent)), fun full => if_pos (.inr full),
      fun other room => if_neg ?_⟩
    rintro (urgent | full)
    · obtain kind | kind | kind := other <;> rw [kind] at urgent <;> nomatch urgent
    · exact absurd full (Nat.not_le.mpr room)

end Sys2Proof.Machine
end

section
/-! The settled statements about sent frames and collisions (R68 to R75, R89, R132, R151). -/

namespace Sys2Proof.Machine

/-! ### FRAME_SENT (R68, R74) -/

/-- The state in which a sent frame gives its result: counted, READY, and the line idle (R68). -/
def State.sentFrame (s : State) : State := ((s.count .framesSent).setLau s.lau.toReady).stopDriving

theorem exec_frameSent_eq (s : State) (t : Time) (c : CurrentFrame) (hr : s.inReset = false)
    (tx : s.lau.tx = .send t) (current : s.lau.current = some c) :
    exec .frameSent s = .next ((s.advanceTo (t + c.frame.bitTimes)).sentFrame.giveResult c.frame .sent) := by
  have occasion : s.sentOccasion = some (t + c.frame.bitTimes) := by simp [State.sentOccasion, tx, current]
  rw [exec_frameSent, execFrameSent, occasion, State.onOccasion_some _ _ _ hr]
  simp only [State.advanceTo_lau, current]
  rfl

/-- FRAMES_SENT counts once, whatever the producer counts. -/
theorem State.sentFrame_framesSent (s : State) (f : Frame) (h : s.port.counters.length = 14) :
    (s.sentFrame.giveResult f .sent).port.counter 0 = s.port.counter 0 + 1 := by
  rw [State.giveResult_sent_port]
  split
  · exact (Port.count_counter_other _ 8 0 (by decide)).trans (s.count_counter .framesSent h)
  · exact s.count_counter .framesSent h

/-- HOLDS_SENT counts for a HOLD. -/
theorem State.sentFrame_holdsSent (s : State) (f : Frame) (kind : f.kind = .hold)
    (h : s.port.counters.length = 14) :
    (s.sentFrame.giveResult f .sent).port.counter 8 = s.port.counter 8 + 1 := by
  have counted : s.sentFrame.port.counter 8 = s.port.counter 8 := Port.count_counter_other _ 0 8 (by decide)
  have length : s.sentFrame.port.counters.length = 14 := by simpa [State.sentFrame, State.stopDriving] using h
  rw [State.giveResult_sent_port, if_pos kind, ← counted]
  exact s.sentFrame.count_counter .holdsSent length

/-- Settles O35: the frame is counted and leaves the transmitter, and SENT acts block by block. -/
theorem frameSentGivesResult : Obligations.FrameSentGivesResult := by
  intro s t c hr tx current counters
  rw [exec_frameSent_eq s t c hr tx current]
  have now : ((s.advanceTo (t + c.frame.bitTimes)).sentFrame.giveResult c.frame .sent).now
      = max s.now (t + c.frame.bitTimes) := State.giveResult_now _ _ _
  refine ⟨_, rfl, now, ?lau, State.sentFrame_framesSent (s.advanceTo _) c.frame counters, ?cc, ?rxp, ?otb, ?dlc,
    ?endA, ?endB, fun bid => ?bid, fun other => ?noBid,
    fun hold => ⟨State.sentFrame_holdsSent (s.advanceTo _) c.frame hold counters, ?hold⟩,
    fun other => ?noHold, fun pre i is schedule before kind frame phase => ?copy, fun other => ?noCopy⟩
  case lau =>
    rw [State.giveResult_sent_lau, now]
    rfl
  case bid =>
    rw [State.giveResult_sent_hsu, if_pos bid, now]
    rfl
  case noBid => exact (State.giveResult_sent_hsu _ _).trans (if_neg other)
  case hold =>
    rw [State.giveResult_sent_lhu, if_pos hold, now]
    refine ⟨fun zero => if_pos zero, fun positive congested => ?_, fun positive free => ?_⟩
    · exact (if_neg positive).trans (if_pos congested)
    · exact (if_neg positive).trans (if_neg (Bool.eq_false_iff.mp free))
  case noHold => exact (State.giveResult_sent_lhu _ _).trans (if_neg other)
  case copy =>
    have issue : (s.advanceTo (t + c.frame.bitTimes)).sentFrame.IssueOf c.frame pre i is :=
      ⟨schedule, before, frame, phase⟩
    rw [State.giveResult_sent_dcu, if_pos kind, now]
    exact issue.copyEnded_dcu
  case noCopy => exact (State.giveResult_sent_dcu _ _).trans (if_neg other)
  case cc => exact State.giveResult_cc _ _ _
  case rxp => exact State.giveResult_rxp _ _ _
  case otb => exact State.giveResult_otb _ _ _
  case dlc => exact State.giveResult_dlc _ _ _
  case endA => exact State.giveResult_endA _ _ _
  case endB => exact State.giveResult_endB _ _ _

/-! ### COLLISION, JAM_END and BACKOFF_EXPIRY (R69 to R72) -/

theorem exec_jamEnd_eq (s : State) (t : Time) (c : CurrentFrame) (hr : s.inReset = false)
    (tx : s.lau.tx = .jam t) (current : s.lau.current = some c) :
    exec .jamEnd s = .next ((s.advanceTo t).stopDriving.afterJam c) := by
  have occasion : s.jamOccasion = some t := by simp [State.jamOccasion, tx]
  rw [exec_jamEnd, execJamEnd, occasion, State.onOccasion_some _ _ _ hr]
  simp only [State.advanceTo_lau, current]

/-- An ordinary collision before the twelfth ends in back-off (R70). -/
theorem State.afterJam_backsOff (s : State) (c : CurrentFrame) (uncut : c.cut = .uncut) (ordinary : c.late = false)
    (few : c.collisions < 12) : s.afterJam c = s.backOff c := by
  rw [State.afterJam, uncut]
  simp only [ordinary, Bool.false_eq_true, if_false]
  exact if_neg (Nat.not_le.mpr few)

/-- A late frame, and a frame of twelve collisions, is counted and given up (R71, R72). -/
theorem State.afterJam_givesUp (s : State) (c : CurrentFrame) (uncut : c.cut = .uncut)
    (h : c.late = true ∨ 12 ≤ c.collisions) :
    ∃ k r, s.afterJam c = (s.count k).giveUp c.frame r ∧ (r = .abandoned ∨ r = .late)
      ∧ (c.late = true → k = .lateCollisions) ∧ (c.late = false → k = .framesAbandoned) := by
  rw [State.afterJam, uncut]
  cases late : c.late with
  | true => exact ⟨.lateCollisions, .late, rfl, .inr rfl, fun _ => rfl, nofun⟩
  | false =>
    have many : 12 ≤ c.collisions := h.resolve_left (by simp [late])
    exact ⟨.framesAbandoned, .abandoned, if_pos many, .inl rfl, nofun, fun _ => rfl⟩

/-- The end of a cut frame's jam gives no result, and counts a late collision after the line reset alone (R75). -/
theorem State.afterJam_cut (s : State) (c : CurrentFrame) (cut : c.cut ≠ .uncut) :
    s.afterJam c =
      if c.cut = .whileSending ∧ c.late = true then (s.setLau s.lau.toReady).count .lateCollisions
      else s.setLau s.lau.toReady := by
  unfold State.afterJam
  cases h : c.cut with
  | uncut => exact absurd h cut
  | whileJamming => rfl
  | whileSending => cases c.late <;> rfl

/-- FRAME_ABANDONED is posted at most. -/
theorem State.postAbandoned_eq (s : State) (f : Frame) :
    ∃ port, s.postAbandoned f = s.setPort port ∧ (∀ i, port.counter i = s.port.counter i)
      ∧ (f.kind.isUrgent = true → s.port.notices.length < 16 → .frameAbandoned f.kind ∈ port.notices) := by
  unfold State.postAbandoned
  split
  case isTrue =>
    refine ⟨_, rfl, fun i => by simp [Port.counter], fun _ room => ?_⟩
    rw [Port.post_notFull _ _ room]
    exact List.mem_append_right _ List.mem_cons_self
  case isFalse quiet => exact ⟨s.port, rfl, fun _ => rfl, fun urgent => absurd urgent quiet⟩

/-- A frame given up leaves the transmitter READY; its producer gets its result. -/
theorem State.giveUp_eq (s : State) (f : Frame) (r : TxResult) (h : r = .abandoned ∨ r = .late) :
    ∃ slot dcu port,
      s.giveUp f r = ((s.setLau { s.lau.toReady with holdSlot := slot }).setDcu dcu).setPort port
      ∧ (f.kind = .hold → holdOf f.payload ≠ 0 → s.lhu.congested = true →
          ∃ g, slot = some g ∧ g.kind = .hold ∧ holdOf g.payload = 200)
      ∧ (f.kind = .doorcmd → dcu = (s.copyEnded f).dcu)
      ∧ (∀ i, port.counter i = s.port.counter i)
      ∧ (f.kind.isUrgent = true → s.port.notices.length < 16 → .frameAbandoned f.kind ∈ port.notices) := by
  obtain ⟨port, posted, counters, urgent⟩ := s.postAbandoned_eq f
  obtain ⟨slot, dcu, result, hold, door⟩ := (s.setPort port).giveResult_givenUp_eq f r h
  refine ⟨slot, dcu, port, ?_, hold, door, counters, urgent⟩
  unfold State.giveUp
  rw [posted, result]
  rfl

/-- Settles O36: a collision jams, and what the jam's end does follows the current frame's marks. -/
theorem collisionsJamAndBackOff : Obligations.CollisionsJamAndBackOff := by
  refine ⟨?collision, ?jamEnd, ?cut, ?backoff⟩
  case collision =>
    intro s t c p hr tx current inFrame
    have occasion : s.collisionOccasion p = some (t + p) := by
      simp [State.collisionOccasion, tx, current, inFrame]
    rw [exec_collision, execCollision, occasion, State.onOccasion_some _ _ _ hr, State.advanceTo_lau, current]
    rfl
  case jamEnd =>
    intro s t c hr tx current uncut length
    rw [exec_jamEnd_eq s t c hr tx current]
    refine ⟨fun ordinary few => ?again, fun lost => ?givenUp⟩
    case again =>
      rw [State.afterJam_backsOff _ c uncut ordinary few]
      rfl
    case givenUp =>
      obtain ⟨k, r, after, result, late, ordinary⟩ :=
        (s.advanceTo t).stopDriving.afterJam_givesUp c uncut lost
      obtain ⟨slot, dcu, port, given, hold, door, counters, urgent⟩ :=
        ((s.advanceTo t).stopDriving.count k).giveUp_eq c.frame r result
      have counted := (s.advanceTo t).stopDriving.count_counter k length
      rw [after, given]
      refine ⟨_, rfl, rfl, rfl, fun isLate => ?lateCounts, fun isOrdinary => ?abandonedCounts, rfl, rfl, rfl, rfl,
        fun posts room => urgent posts ?room, hold, fun pre i is schedule before kind frame phase => ?copy⟩
      case lateCounts =>
        obtain rfl := late isLate
        exact ⟨(counters 5).trans counted, (counters 4).trans (Port.count_counter_other _ 5 4 (by decide))⟩
      case abandonedCounts =>
        obtain rfl := ordinary isOrdinary
        exact ⟨(counters 4).trans counted, (counters 5).trans (Port.count_counter_other _ 4 5 (by decide))⟩
      case room => exact Nat.lt_of_le_of_lt (Port.count_notices_length _ _) (Nat.succ_lt_succ room)
      case copy =>
        have issue : ((s.advanceTo t).stopDriving.count k).IssueOf c.frame pre i is :=
          ⟨schedule, before, frame, phase⟩
        rw [State.setPort_dcu, State.setDcu_dcu, door kind]
        exact issue.copyEnded_dcu
  case cut =>
    intro s t c hr tx current cut
    rw [exec_jamEnd_eq s t c hr tx current, State.afterJam_cut _ c cut]
    rfl
  case backoff =>
    intro s t hr tx
    have occasion : s.backoffOccasion = some t := by simp [State.backoffOccasion, tx]
    rw [exec_backoffExpiry, execBackoffExpiry, occasion, State.onOccasion_some _ _ _ hr]
    rfl

end Sys2Proof.Machine
end

section
/-! SUPPORT. The invariant of the transmit store, place by place: what the submissions and the takes of a queue keep
of its capacity, kinds and single frames (R58, R60 to R63). -/

namespace Sys2Proof.Machine

/-! ### The kinds that wait in a queue -/

/-- The kinds of a queue's frames are within its capacity, are held there, and some of them wait once at most. -/
structure KindsSound (cap : Nat) (held single : List FrameKind) (ks : List FrameKind) : Prop where
  room : ks.length ≤ cap
  kinds : ks ⊆ held
  once : ∀ k ∈ single, ks.count k ≤ 1

section KindsSound

variable {cap : Nat} {held single ks : List FrameKind}

theorem KindsSound.nil : KindsSound cap held single [] := ⟨Nat.zero_le _, List.nil_subset _, fun _ _ => Nat.zero_le _⟩

/-- A frame that leaves leaves the rest sound. -/
theorem KindsSound.drop (h : KindsSound cap held single ks) : KindsSound cap held single (ks.drop 1) :=
  have part := List.drop_sublist 1 ks
  ⟨Nat.le_trans part.length_le h.room, fun _ mem => h.kinds (part.subset mem),
    fun k hk => Nat.le_trans (part.count_le k) (h.once k hk)⟩

/-- A frame joins a queue with room, when its kind is held there and does not wait or may wait more than once. -/
theorem KindsSound.concat {k : FrameKind} (h : KindsSound cap held single ks) (room : ks.length < cap)
    (mem : k ∈ held) (new : k ∈ single → k ∉ ks) : KindsSound cap held single (ks ++ [k]) := by
  refine ⟨?_, List.append_subset.mpr ⟨h.kinds, List.cons_subset.mpr ⟨mem, List.nil_subset _⟩⟩, fun j hj => ?_⟩
  · rw [List.length_append]
    exact room
  · rw [List.count_append]
    by_cases same : j = k
    · subst same
      have absent : ks.count j = 0 := List.count_eq_zero.mpr (new hj)
      have one : [j].count j = 1 := List.count_singleton_self
      omega
    · have absent : [k].count j = 0 := List.count_eq_zero.mpr (by simpa using same)
      rw [absent]
      exact h.once j hj

end KindsSound

/-- A frame put in the place of one of its kind leaves the kinds. -/
theorem replaceKind_kinds (f : Frame) (q : List Frame) :
    (replaceKind f.kind f q).map Frame.kind = q.map Frame.kind := by
  induction q with
  | nil => rfl
  | cons g gs ih =>
    unfold replaceKind
    split
    case isTrue same => rw [List.map_cons, List.map_cons, same]
    case isFalse => rw [List.map_cons, List.map_cons, ih]

/-- A submission with a supersede rule keeps a queue sound (R61, R62). -/
theorem KindsSound.superseding {cap : Nat} {held single : List FrameKind} {q : List Frame}
    (h : KindsSound cap held single (q.map Frame.kind)) {f : Frame} (mem : f.kind ∈ held) :
    KindsSound cap held single ((superseding cap q f).1.map Frame.kind) := by
  unfold Machine.superseding
  split
  case isTrue => rwa [replaceKind_kinds]
  case isFalse new =>
    split
    case isTrue room =>
      rw [List.map_append]
      exact h.concat (by simpa using room) mem fun _ => by simpa using new
    case isFalse => exact h

/-! ### The transmit store (R58, R61, R62) -/

/-- The transmit store is sound, place by place. -/
structure Lau.sound (l : Lau) : Prop where
  reform : ∀ f ∈ l.reformSlot, f.kind = .reform
  hold : ∀ f ∈ l.holdSlot, f.kind = .hold
  safety : KindsSound Config.safetyCap [.doorcmd, .doorstat] [.doorstat] (l.safety.map Frame.kind)
  consist : KindsSound Config.consistCap [.roll, .tally] [.roll, .tally] (l.consist.map Frame.kind)
  supply : KindsSound Config.supplyCap [.heatbid] [] (l.supply.map Frame.kind)

theorem ofKind_eq_count (k : FrameKind) (q : List Frame) : ofKind k q = (q.map Frame.kind).count k := by
  rw [ofKind, List.count, List.countP_map, List.countP_eq_length_filter]
  rfl

/-- A queue of frames is sound by its length, its kinds and the counts of its single kinds. -/
theorem kindsSound_iff (cap : Nat) (held single : List FrameKind) (q : List Frame) :
    KindsSound cap held single (q.map Frame.kind)
      ↔ q.length ≤ cap ∧ (∀ f ∈ q, f.kind ∈ held) ∧ ∀ k ∈ single, ofKind k q ≤ 1 := by
  simp only [ofKind_eq_count]
  constructor
  · rintro ⟨room, kinds, once⟩
    exact ⟨by simpa using room, fun f hf => kinds (List.mem_map_of_mem hf), once⟩
  · rintro ⟨room, kinds, once⟩
    refine ⟨by simpa using room, fun k hk => ?_, once⟩
    obtain ⟨f, hf, rfl⟩ := List.mem_map.mp hk
    exact kinds f hf

theorem State.storeSound_iff (s : State) : s.storeSound ↔ s.lau.sound := by
  constructor
  · rintro ⟨⟨safetyRoom, consistRoom, supplyRoom⟩, ⟨reform, hold, safety, consist, supply⟩, doorstat, roll, tally⟩
    exact ⟨reform, hold, (kindsSound_iff _ _ _ _).mpr ⟨safetyRoom, by simpa using safety, by simpa using doorstat⟩,
      (kindsSound_iff _ _ _ _).mpr ⟨consistRoom, by simpa using consist, by simpa using ⟨roll, tally⟩⟩,
      (kindsSound_iff _ _ _ _).mpr ⟨supplyRoom, by simpa using supply, nofun⟩⟩
  · rintro ⟨reform, hold, safety, consist, supply⟩
    obtain ⟨safetyRoom, safetyKinds, doorstat⟩ := (kindsSound_iff _ _ _ _).mp safety
    obtain ⟨consistRoom, consistKinds, rollTally⟩ := (kindsSound_iff _ _ _ _).mp consist
    obtain ⟨supplyRoom, supplyKinds, -⟩ := (kindsSound_iff _ _ _ _).mp supply
    exact ⟨⟨safetyRoom, consistRoom, supplyRoom⟩,
      ⟨reform, hold, by simpa using safetyKinds, by simpa using consistKinds, by simpa using supplyKinds⟩,
      doorstat _ (by simp), rollTally _ (by simp), rollTally _ (by simp)⟩

/-- Each invariant of the line is one of the LAU's, or of the schedule. -/
theorem State.transmitSound_iff (s : State) : s.transmitSound ↔ s.lau.sound ∧ s.scheduleSound :=
  and_congr_left' s.storeSound_iff

theorem Lau.atRelease_sound : Lau.atRelease.sound := ⟨nofun, nofun, .nil, .nil, .nil⟩

/-- The transmitter's fields are no part of the store. -/
theorem Lau.sound.of_store {l m : Lau} (h : l.sound) (reform : m.reformSlot = l.reformSlot)
    (hold : m.holdSlot = l.holdSlot) (safety : m.safety = l.safety) (consist : m.consist = l.consist)
    (supply : m.supply = l.supply) : m.sound :=
  ⟨reform ▸ h.reform, hold ▸ h.hold, safety ▸ h.safety, consist ▸ h.consist, supply ▸ h.supply⟩

/-! ### Submissions and takes (R59 to R63, R75) -/

section Sound

variable {l : Lau}

theorem Lau.sound.submitReform (h : l.sound) {f : Frame} (kind : f.kind = .reform) : (l.submitReform f).sound :=
  { h with reform := fun _ hg => Option.some.inj hg ▸ kind }

theorem Lau.sound.submitHold (h : l.sound) {f : Frame} (kind : f.kind = .hold) : (l.submitHold f).sound :=
  { h with hold := fun _ hg => Option.some.inj hg ▸ kind }

theorem Lau.sound.submitDoorcmd (h : l.sound) {f : Frame} (kind : f.kind = .doorcmd) :
    (l.submitDoorcmd f).1.sound := by
  by_cases room : l.safety.length < Config.safetyCap
  · rw [l.submitDoorcmd_stored f room]
    refine { h with safety := ?_ }
    rw [List.map_append]
    exact h.safety.concat (by simpa using room) (by simp [kind]) (by simp [kind])
  · rw [l.submitDoorcmd_full f (Nat.not_lt.mp room)]
    exact h

theorem Lau.sound.submitDoorstat (h : l.sound) {f : Frame} (kind : f.kind = .doorstat) : (l.submitDoorstat f).sound :=
  { h with safety := h.safety.superseding (by simp [kind]) }

theorem Lau.sound.submitConsist (h : l.sound) {f : Frame} (kind : f.kind ∈ [FrameKind.roll, .tally]) :
    (l.submitConsist f).sound :=
  { h with consist := h.consist.superseding kind }

theorem Lau.sound.submitHeatbid (h : l.sound) {f : Frame} (kind : f.kind = .heatbid) : (l.submitHeatbid f).sound :=
  { h with supply := h.supply.superseding (by simp [kind]) }

theorem Lau.sound.removeHead (h : l.sound) (place : StorePlace) : (l.removeHead place).sound := by
  cases place with
  | reformSlot => exact { h with reform := nofun }
  | holdSlot => exact { h with hold := nofun }
  | safety => exact { h with safety := by simpa [Lau.removeHead] using h.safety.drop }
  | consist => exact { h with consist := by simpa [Lau.removeHead] using h.consist.drop }
  | supply => exact { h with supply := by simpa [Lau.removeHead] using h.supply.drop }

/-- A line reset leaves an empty store. -/
theorem Lau.lineReset_sound (l : Lau) : l.lineReset.sound := by
  obtain ⟨reform, hold, safety, consist, supply⟩ := l.lineReset_store
  exact Lau.atRelease_sound.of_store reform hold safety consist supply

end Sound

/-! ### The transmitter's frame (R63, R73) -/

/-- There is a current frame in every state of the transmitter but READY. -/
def Lau.framed (l : Lau) : Prop := l.tx = .ready ↔ l.current = none

theorem Lau.toReady_framed (l : Lau) : l.toReady.framed := iff_of_true rfl rfl

/-- A transmitter with a frame is not READY. -/
theorem Lau.framed_of_busy {l : Lau} (tx : l.tx ≠ .ready) (current : l.current ≠ none) : l.framed :=
  iff_of_false tx current

/-- A line reset leaves a marked frame on the line, or none and READY. -/
theorem Lau.framed.lineReset {l : Lau} (h : l.framed) : l.lineReset.framed := by
  unfold Lau.framed at h
  unfold Lau.lineReset
  cases tx : l.tx with
  | ready => exact iff_of_true rfl (h.mp tx)
  | backoff _ | rewait => exact Lau.toReady_framed _
  | send _ | jam _ =>
    have current : l.current ≠ none := mt h.mpr (by simp [tx])
    exact Lau.framed_of_busy (by simp) (by simpa using current)

end Sys2Proof.Machine
end

section
/-! SUPPORT. What the operations of each block keep of the line: the invariants of the transmit store, of the repeat
schedule and of the transmitter (R58, R61 to R63, R73, R132). -/

namespace Sys2Proof.Machine

/-! ### What is kept of the line from one state to another -/

/-- From a state to another the invariants of the transmit store and of the transmitter are kept, each by itself. -/
structure LineKept (s t : State) : Prop where
  store : s.transmitSound → t.transmitSound
  transmitter : s.transmitterSound → t.transmitterSound

theorem LineKept.refl (s : State) : LineKept s s := ⟨id, id⟩

section Moves

variable {s₀ s : State}

/-- What leaves the LAU and the schedule keeps the line. -/
theorem LineKept.quiet (h : LineKept s₀ s) {t : State} (same : t.lau = s.lau ∧ t.dcu.schedule = s.dcu.schedule) :
    LineKept s₀ t := by
  obtain ⟨lau, schedule⟩ := same
  refine ⟨fun h₀ => ?_, fun h₀ => ?_⟩
  · have sound := h.store h₀
    rw [State.transmitSound_iff, State.scheduleSound] at sound ⊢
    rwa [lau, schedule]
  · have framed := h.transmitter h₀
    rw [State.transmitterSound] at framed ⊢
    rwa [lau]

/-- A move of the LAU that keeps the store sound, and the transmitter its frame. -/
theorem LineKept.setLau (h : LineKept s₀ s) {l : Lau} (store : s.lau.sound → l.sound)
    (transmitter : s.lau.framed → l.framed) : LineKept s₀ (s.setLau l) := by
  refine ⟨fun h₀ => ?_, fun h₀ => transmitter (h.transmitter h₀)⟩
  obtain ⟨sound, schedule⟩ := s.transmitSound_iff.mp (h.store h₀)
  exact (s.setLau l).transmitSound_iff.mpr ⟨store sound, schedule⟩

/-- A change of the DCU whose schedule repeats no other frames. -/
theorem LineKept.setDcu (h : LineKept s₀ s) {d : Dcu}
    (schedule : s.scheduleSound → ∀ i ∈ d.schedule, i.frame.kind = .doorcmd) : LineKept s₀ (s.setDcu d) := by
  refine ⟨fun h₀ => ?_, h.transmitter⟩
  obtain ⟨store, sound⟩ := h.store h₀
  exact ⟨store, schedule sound⟩

theorem LineKept.setDcu_sameSchedule (h : LineKept s₀ s) (d : Dcu)
    (same : d.schedule = s.dcu.schedule := by rfl) : LineKept s₀ (s.setDcu d) :=
  h.quiet ⟨rfl, same⟩

/-- A state whose LAU and schedule have their reset values. -/
theorem LineKept.atRelease {t : State} (lau : t.lau = Lau.atRelease) (schedule : t.dcu.schedule = []) :
    LineKept s t := by
  refine ⟨fun _ => t.transmitSound_iff.mpr ⟨lau ▸ Lau.atRelease_sound, ?_⟩, fun _ => ?_⟩
  · rw [State.scheduleSound, schedule]
    exact nofun
  · rw [State.transmitterSound, lau]
    exact iff_of_true rfl rfl

/-! ### What leaves the line -/

theorem LineKept.post (h : LineKept s₀ s) (n : Notice) : LineKept s₀ (s.post n) := h.quiet ⟨rfl, rfl⟩

theorem LineKept.count (h : LineKept s₀ s) (c : Counter) : LineKept s₀ (s.count c) := h.quiet ⟨rfl, rfl⟩

theorem LineKept.setCc (h : LineKept s₀ s) (c : Cc) : LineKept s₀ (s.setCc c) := h.quiet ⟨rfl, rfl⟩

theorem LineKept.setHsu (h : LineKept s₀ s) (u : Hsu) : LineKept s₀ (s.setHsu u) := h.quiet ⟨rfl, rfl⟩

theorem LineKept.setLhu (h : LineKept s₀ s) (u : Lhu) : LineKept s₀ (s.setLhu u) := h.quiet ⟨rfl, rfl⟩

theorem LineKept.setRxp (h : LineKept s₀ s) (r : Rxp) : LineKept s₀ (s.setRxp r) := h.quiet ⟨rfl, rfl⟩

theorem LineKept.advanceTo (h : LineKept s₀ s) (t : Time) : LineKept s₀ (s.advanceTo t) := h.quiet ⟨rfl, rfl⟩

theorem LineKept.setOtb (h : LineKept s₀ s) (o : Otb) : LineKept s₀ (s.setOtb o) := h.quiet ⟨rfl, rfl⟩

theorem LineKept.setPins (h : LineKept s₀ s) (p : Pins) : LineKept s₀ (s.setPins p) := h.quiet ⟨rfl, rfl⟩

theorem LineKept.setPort (h : LineKept s₀ s) (p : Port) : LineKept s₀ (s.setPort p) := h.quiet ⟨rfl, rfl⟩

theorem LineKept.setEnd (h : LineKept s₀ s) (e : CoachEnd) (l : EndLink) : LineKept s₀ (s.setEnd e l) :=
  h.quiet (by simp)

theorem LineKept.putLeaf (h : LineKept s₀ s) (l : Leaf) (o : ChannelOrder) : LineKept s₀ (s.putLeaf l o) :=
  h.quiet ⟨rfl, rfl⟩

/-! ### Submissions (R59 to R62) -/

theorem LineKept.submitReform (h : LineKept s₀ s) (r : ReformReason) : LineKept s₀ (s.submitReform r) :=
  h.setLau (fun sound => sound.submitReform rfl) id

theorem LineKept.submitHold (h : LineKept s₀ s) (timeMs : Nat) : LineKept s₀ (s.submitHold timeMs) :=
  h.setLau (fun sound => sound.submitHold rfl) id

theorem LineKept.submitRoll (h : LineKept s₀ s) : LineKept s₀ s.submitRoll :=
  h.setLau (fun sound => sound.submitConsist (List.mem_cons_self)) id

theorem LineKept.submitTally (h : LineKept s₀ s) (t : Tally) : LineKept s₀ (s.submitTally t) :=
  h.setLau (fun sound => sound.submitConsist (List.mem_cons_of_mem _ List.mem_cons_self)) id

theorem LineKept.submitDoorstat (h : LineKept s₀ s) : LineKept s₀ s.submitDoorstat :=
  (h.setLau (fun sound => sound.submitDoorstat rfl) id).setDcu_sameSchedule _

theorem LineKept.submitHeatbid (h : LineKept s₀ s) : LineKept s₀ s.submitHeatbid :=
  (h.setLau (fun sound => sound.submitHeatbid rfl) id).setHsu _

/-- A DOORCMD goes to the SAFETY queue or is not stored (R60). -/
theorem Lau.framed.submitDoorcmd {l : Lau} (h : l.framed) (f : Frame) : (l.submitDoorcmd f).1.framed := by
  by_cases room : l.safety.length < Config.safetyCap
  · rw [l.submitDoorcmd_stored f room]
    exact h
  · rw [l.submitDoorcmd_full f (Nat.not_lt.mp room)]
    exact h

/-! ### Leaves and door status (R108 to R124, R137 to R144) -/

@[simp] theorem State.evalDoorsSecure_schedule (s : State) : s.evalDoorsSecure.dcu.schedule = s.dcu.schedule := by
  rw [State.evalDoorsSecure_dcu]

theorem LineKept.evalDoorsSecure (h : LineKept s₀ s) : LineKept s₀ s.evalDoorsSecure := h.quiet (by simp)

theorem Dcu.takeDoorstatExpiry_schedule (d : Dcu) : d.takeDoorstatExpiry.schedule = d.schedule := by
  unfold Dcu.takeDoorstatExpiry
  split <;> rfl

/-- A change of the summaries submits a DOORSTAT at most (R137, R138). -/
theorem LineKept.settleLeaves (h : LineKept s₀ s) : LineKept s₀ s.settleLeaves := by
  unfold State.settleLeaves
  dsimp only
  split
  · exact h
  · refine LineKept.evalDoorsSecure ?_
    split
    · exact (h.setDcu_sameSchedule _).submitDoorstat
    · exact h.setDcu_sameSchedule _

theorem LineKept.faultLeaf (h : LineKept s₀ s) (l : Leaf) (r : FaultReason) : LineKept s₀ (s.faultLeaf l r) :=
  (((h.putLeaf _ _).count _).post _).settleLeaves

theorem LineKept.obstructLeaf (h : LineKept s₀ s) (l : Leaf) : LineKept s₀ (s.obstructLeaf l) := by
  unfold State.obstructLeaf
  dsimp only
  split
  · exact (h.putLeaf _ _).settleLeaves
  · exact h.faultLeaf _ _

theorem LineKept.enterDrive (h : LineKept s₀ s) (l : Leaf) : LineKept s₀ (s.enterDrive l) := by
  unfold State.enterDrive
  dsimp only
  split
  · exact h.obstructLeaf _
  · exact (h.putLeaf _ _).settleLeaves

theorem LineKept.takeAMatch (h : LineKept s₀ s) (i : Nat) : LineKept s₀ (s.takeAMatch i) := by
  unfold State.takeAMatch
  split
  · split
    · exact h.enterDrive _
    · exact h.enterDrive _
    all_goals exact h
  · exact h

theorem LineKept.takeBMatch (h : LineKept s₀ s) (i : Nat) : LineKept s₀ (s.takeBMatch i) := by
  unfold State.takeBMatch
  split
  · split
    · exact h.faultLeaf _ _
    all_goals exact h
  · exact h

theorem LineKept.takeStartMatches (h : LineKept s₀ s) (orders : List (Nat × ChannelOrder)) :
    LineKept s₀ (s.takeStartMatches orders) := by
  unfold State.takeStartMatches
  induction orders generalizing s with
  | nil => exact h
  | cons x xs ih =>
    rw [List.foldl_cons]
    split
    · exact ih (h.takeAMatch _)
    · exact ih h

theorem LineKept.passLeaves (h : LineKept s₀ s) (sides : List Side) (passage : Leaf → Leaf × ChannelOrder) :
    LineKept s₀ (s.passLeaves sides passage) :=
  h.quiet ⟨rfl, rfl⟩

theorem LineKept.onLeaves (h : LineKept s₀ s) (sides : List Side) (passage : Leaf → Leaf × ChannelOrder) :
    LineKept s₀ (s.onLeaves sides passage) :=
  (h.passLeaves sides passage).settleLeaves.takeStartMatches _

theorem LineKept.releaseLeaves (h : LineKept s₀ s) (sides : List Side) (n : FormationNumber) :
    LineKept s₀ (s.releaseLeaves sides n) := by
  unfold State.releaseLeaves
  split
  · exact h.onLeaves _ _
  · exact h

theorem LineKept.closeLeaves (h : LineKept s₀ s) (sides : List Side) : LineKept s₀ (s.closeLeaves sides) :=
  h.onLeaves _ _

theorem LineKept.takeClChange (h : LineKept s₀ s) (l : Leaf) : LineKept s₀ (s.takeClChange l) := h.quiet ⟨rfl, rfl⟩

theorem LineKept.takeObChange (h : LineKept s₀ s) (l : Leaf) : LineKept s₀ (s.takeObChange l) := by
  unfold State.takeObChange
  dsimp only
  split
  · exact h.obstructLeaf _
  · exact h.quiet ⟨rfl, rfl⟩

theorem LineKept.endIsolation (h : LineKept s₀ s) (l : Leaf) : LineKept s₀ (s.endIsolation l) := by
  unfold State.endIsolation
  split
  · split
    · exact (h.putLeaf _ _).settleLeaves
    · exact h.faultLeaf _ _
  · exact h

theorem LineKept.isolateRequest (h : LineKept s₀ s) (leaf onOff : Byte) :
    LineKept s₀ (s.isolateRequest leaf onOff).1 := by
  unfold State.isolateRequest
  split
  case h_1 | h_2 => exact h
  case h_3 => exact (h.putLeaf _ _).settleLeaves
  case h_4 => exact h.endIsolation _

theorem LineKept.takeDoorstat (h : LineKept s₀ s) (f : Frame) : LineKept s₀ (s.takeDoorstat f) := by
  unfold State.takeDoorstat
  split
  · split
    · exact (h.setDcu_sameSchedule _).evalDoorsSecure
    · exact h
  · exact h

/-! ### Door commands (R128 to R136) -/

/-- An entry after a change of the first that satisfies a test is one of before, or what that one became. -/
theorem mem_updateFirst {test : Issue → Bool} {change : Issue → Option Issue} {is : List Issue} {j : Issue}
    (h : j ∈ updateFirst test change is) : j ∈ is ∨ ∃ i ∈ is, change i = some j := by
  induction is with
  | nil => nomatch h
  | cons i is ih =>
    unfold updateFirst at h
    split at h
    · split at h
      case h_1 k changed =>
        obtain rfl | later := List.mem_cons.mp h
        · exact .inr ⟨i, List.mem_cons_self, changed⟩
        · exact .inl (List.mem_cons_of_mem _ later)
      case h_2 => exact .inl (List.mem_cons_of_mem _ h)
    · obtain rfl | later := List.mem_cons.mp h
      · exact .inl List.mem_cons_self
      · obtain kept | ⟨k, mem, changed⟩ := ih later
        · exact .inl (List.mem_cons_of_mem _ kept)
        · exact .inr ⟨k, List.mem_cons_of_mem _ mem, changed⟩

/-- A change of one entry that keeps its frame keeps a sound schedule. -/
theorem State.scheduleSound.updateFirst {s : State} (h : s.scheduleSound) {test : Issue → Bool}
    {change : Issue → Option Issue} (frame : ∀ i j, change i = some j → j.frame = i.frame) :
    ∀ i ∈ updateFirst test change s.dcu.schedule, i.frame.kind = .doorcmd := by
  intro j hj
  obtain kept | ⟨i, mem, changed⟩ := mem_updateFirst hj
  · exact h j kept
  · rw [frame i j changed]
    exact h i mem

theorem Issue.copyEnded_frame (i j : Issue) (now : Time) (h : i.copyEnded now = some j) : j.frame = i.frame := by
  unfold Issue.copyEnded at h
  split at h
  · nomatch h
  · obtain rfl := Option.some.inj h
    rfl

theorem LineKept.copyEnded (h : LineKept s₀ s) (f : Frame) : LineKept s₀ (s.copyEnded f) :=
  h.setDcu fun sound => sound.updateFirst fun i j => i.copyEnded_frame j s.now

theorem LineKept.copyStale (h : LineKept s₀ s) (f : Frame) : LineKept s₀ (s.copyStale f) := by
  unfold State.copyStale
  split
  · exact (h.setDcu fun sound => sound.updateFirst fun _ _ (gone : none = some _) => nomatch gone).post _
  · exact h

/-- The DOORCMD that a repeat submits is one of the schedule, whose entry keeps its frame (R132). -/
theorem LineKept.repeatCopy (h : LineKept s₀ s) (seq : Byte) : LineKept s₀ (s.repeatCopy seq) := by
  unfold State.repeatCopy
  split
  case h_1 => exact h
  case h_2 i found =>
    refine ⟨fun h₀ => ?_, fun h₀ => Lau.framed.submitDoorcmd (h.transmitter h₀) _⟩
    obtain ⟨sound, schedule⟩ := s.transmitSound_iff.mp (h.store h₀)
    have kind : i.frame.kind = .doorcmd := schedule i (List.mem_of_find?_eq_some found)
    refine (State.transmitSound_iff _).mpr ⟨sound.submitDoorcmd kind, schedule.updateFirst fun k j changed => ?_⟩
    cases stored : (s.lau.submitDoorcmd i.frame).2 with
    | stored | replaced =>
      rw [stored] at changed
      obtain rfl := Option.some.inj changed
      rfl
    | full =>
      rw [stored] at changed
      exact k.copyEnded_frame j s.now changed

theorem LineKept.applyIssue (h : LineKept s₀ s) (c : DoorCmd) : LineKept s₀ (s.applyIssue c) := by
  unfold State.applyIssue
  split
  · split
    · exact h.releaseLeaves _ _
    · exact h
  · split
    · split
      · exact h.closeLeaves _
      · exact h
    · exact h.closeLeaves _

/-- An issue stores a DOORCMD and schedules its copies (R129, R132). -/
theorem LineKept.issue (h : LineKept s₀ s) (c : DoorCmd) : LineKept s₀ (s.issue c).1 := by
  unfold State.issue
  dsimp only
  split
  case h_1 => exact h
  all_goals
    refine LineKept.applyIssue (LineKept.setDcu (h.setLau (fun sound => sound.submitDoorcmd rfl)
      fun framed => framed.submitDoorcmd _) fun schedule => ?_) _
    exact List.forall_mem_append.mpr ⟨schedule, by simp [State.buildFrame]⟩

theorem LineKept.doorIssue (h : LineKept s₀ s) (action side rangeFrom rangeTo : Byte) :
    LineKept s₀ (s.doorIssue action side rangeFrom rangeTo).1 := by
  unfold State.doorIssue
  split
  case h_2 => exact h
  case h_1 =>
    split
    · exact h
    · split
      · exact h
      · split
        · exact h.issue _
        · exact h

theorem LineKept.receiveRelease (h : LineKept s₀ s) (sender : NodeId) (c : DoorCmd) :
    LineKept s₀ (s.receiveRelease sender c) := by
  unfold State.receiveRelease
  split
  · exact (h.count _).post _
  · split
    · exact (h.count _).post _
    · split
      · exact h.releaseLeaves _ _
      · exact h

theorem LineKept.receiveClose (h : LineKept s₀ s) (n : FormationNumber) (c : DoorCmd) :
    LineKept s₀ (s.receiveClose n c) := by
  unfold State.receiveClose
  split
  · split
    · split
      · exact h.closeLeaves _
      · exact h
    · exact h.closeLeaves _
  · exact h.closeLeaves _

theorem LineKept.takeDoorcmd (h : LineKept s₀ s) (f : Frame) : LineKept s₀ (s.takeDoorcmd f) := by
  unfold State.takeDoorcmd
  split
  · exact h
  · dsimp only
    split
    · exact h.setDcu_sameSchedule _
    · split
      · exact (h.setDcu_sameSchedule _).receiveRelease _ _
      · exact (h.setDcu_sameSchedule _).receiveClose _ _

/-! ### Heating (R147 to R161) -/

theorem LineKept.triggerAllocation (h : LineKept s₀ s) : LineKept s₀ s.triggerAllocation := h.quiet (by simp)

theorem LineKept.applyGrant (h : LineKept s₀ s) (g : Grant) : LineKept s₀ (s.applyGrant g) := h.quiet (by simp)

theorem LineKept.storeBid (h : LineKept s₀ s) (p : Nat) (i : AllocInput) : LineKept s₀ (s.storeBid p i) := by
  refine h.quiet ?_
  unfold State.storeBid
  dsimp only
  split <;> split <;> simp

theorem LineKept.takeHeatbid (h : LineKept s₀ s) (f : Frame) : LineKept s₀ (s.takeHeatbid f) := by
  unfold State.takeHeatbid
  split
  · split
    · split
      · exact h.storeBid _ _
      · exact h
    · exact h
  · exact h

theorem LineKept.endAllocation (h : LineKept s₀ s) (a : Allocation) : LineKept s₀ (s.endAllocation a) := by
  have idle := h.setHsu { s.hsu with alloc := none, rerunPending := false }
  unfold State.endAllocation State.takeGrant
  dsimp only
  split
  · exact idle.quiet (by simp)
  · split
    · exact idle
    · split
      · exact (idle.setHsu _).applyGrant _
      · exact idle

/-- A change of the own values submits a HEATBID at most (R149). -/
theorem LineKept.ownValuesChanged (h : LineKept s₀ s) (totals : Bool) : LineKept s₀ (s.ownValuesChanged totals) := by
  have bid : LineKept s₀ (if totals && s.isFormed then s.submitHeatbid.triggerAllocation else s) := by
    split
    · exact h.submitHeatbid.triggerAllocation
    · exact h
  unfold State.ownValuesChanged
  dsimp only
  generalize (if totals && s.isFormed then s.submitHeatbid.triggerAllocation else s) = t at bid ⊢
  refine LineKept.quiet (s := if totals && decide (t.hsu.source = .limit) then t.applyGrant t.limitGrant else t)
    ?_ (by simp)
  split
  · exact bid.applyGrant _
  · exact bid

theorem LineKept.heatDemandRequest (h : LineKept s₀ s) (channel frost comfort : Byte) :
    LineKept s₀ (s.heatDemandRequest channel frost comfort).1 := by
  unfold State.heatDemandRequest
  dsimp only
  split
  · exact h
  · split
    · exact h
    · split
      · exact h
      · exact (h.setHsu _).ownValuesChanged _

theorem LineKept.supplyOfferRequest (h : LineKept s₀ s) (offer : BitVec 16) :
    LineKept s₀ (s.supplyOfferRequest offer).1 := by
  unfold State.supplyOfferRequest
  split
  · exact h.setHsu _
  · split
    · exact h
    · split
      · exact h
      · exact (h.setHsu _).ownValuesChanged _

/-! ### Formation (R16 to R38) -/

theorem LineKept.insertOwnRecord (h : LineKept s₀ s) : LineKept s₀ s.insertOwnRecord := h.setCc _

theorem LineKept.testClosure (h : LineKept s₀ s) : LineKept s₀ s.testClosure := h.quiet (by simp)

/-- GATHER entry submits the own ROLL (R24). -/
theorem LineKept.enterGather (h : LineKept s₀ s) : LineKept s₀ s.enterGather := by
  have roll := ((h.setCc (s.cc.clearForGather s.now)).insertOwnRecord).submitRoll
  exact roll.testClosure

theorem LineKept.leaveForGather (h : LineKept s₀ s) (r : LeftReason) : LineKept s₀ (s.leaveForGather r) :=
  h.quiet (by simp)

theorem LineKept.tellLeft (h : LineKept s₀ s) (w : Bool) : LineKept s₀ (s.tellLeft w) := by
  unfold State.tellLeft
  split
  · exact h.quiet (by simp [State.dcuLeaveFormed])
  · exact h

theorem LineKept.startFormation (h : LineKept s₀ s) (r : ReformReason) : LineKept s₀ (s.startFormation r) := by
  have placed : LineKept s₀ ((s.takeNumber (s.cc.number + 1)).submitReform r) := (h.setCc _).submitReform r
  exact (placed.leaveForGather _).enterGather.tellLeft _

theorem LineKept.adopt (h : LineKept s₀ s) (n : FormationNumber) (r : LeftReason) : LineKept s₀ (s.adopt n r) :=
  ((h.setCc _).leaveForGather r).enterGather.tellLeft _

theorem LineKept.hearMember (h : LineKept s₀ s) (id : NodeId) (p : Nat) : LineKept s₀ (s.hearMember id p) := by
  unfold State.hearMember
  dsimp only
  split
  · exact (h.setCc _).post _
  · exact h.setCc _

theorem LineKept.sight (h : LineKept s₀ s) (f : Frame) : LineKept s₀ (s.sight f) := by
  unfold State.sight
  split
  · exact h.adopt _ _
  · split
    · unfold State.sightEqual
      split
      · split
        · exact h.hearMember _ _
        · split
          · exact h
          · exact h.startFormation _
      · exact h
    · exact h

theorem LineKept.dcuFormedEntry (h : LineKept s₀ s) : LineKept s₀ s.dcuFormedEntry :=
  (h.setDcu_sameSchedule _).evalDoorsSecure.submitDoorstat

theorem LineKept.hsuFormedEntry (h : LineKept s₀ s) : LineKept s₀ s.hsuFormedEntry :=
  LineKept.triggerAllocation (LineKept.submitHeatbid (h.quiet (by simp)))

/-- FORMED entry submits a DOORSTAT and a HEATBID (R36, R143, R165). -/
theorem LineKept.enterFormed (h : LineKept s₀ s) (o : CandidateOrder) : LineKept s₀ (s.enterFormed o) := by
  refine LineKept.hsuFormedEntry (LineKept.dcuFormedEntry (LineKept.post ?_ _))
  exact h.quiet (by simp)

theorem LineKept.formIfAgreed (h : LineKept s₀ s) (o : CandidateOrder) : LineKept s₀ (s.formIfAgreed o) := by
  unfold State.formIfAgreed
  split
  · exact h.enterFormed o
  · exact h

theorem LineKept.failFormation (h : LineKept s₀ s) (r : ReformReason) : LineKept s₀ (s.failFormation r) := by
  unfold State.failFormation
  dsimp only
  split
  · exact h.quiet (by simp)
  · exact LineKept.startFormation ((h.count _).setCc _) _

theorem LineKept.enterTally (h : LineKept s₀ s) (o : CandidateOrder) : LineKept s₀ (s.enterTally o) := by
  have told := (h.setCc (s.cc.forTally o s.id s.now)).submitTally o.tally
  unfold State.enterTally
  dsimp only
  split
  · exact told.failFormation _
  · exact (told.setCc _).formIfAgreed _

theorem LineKept.endOrdering (h : LineKept s₀ s) : LineKept s₀ s.endOrdering := by
  unfold State.endOrdering
  split
  · exact h.setCc _
  · exact h.enterTally _
  · exact h

theorem LineKept.compareTally (h : LineKept s₀ s) (sender : NodeId) (t : Tally) :
    LineKept s₀ (s.compareTally sender t) := by
  unfold State.compareTally
  split
  · split
    · split
      · exact (h.setCc _).formIfAgreed _
      · exact h.failFormation _
    · exact h
  · exact h

theorem LineKept.takeTally (h : LineKept s₀ s) (f : Frame) : LineKept s₀ (s.takeTally f) := by
  unfold State.takeTally
  split
  · exact h
  · split
    case h_1 => exact h.setCc _
    case h_2 => exact h.compareTally _ _
    all_goals exact h

theorem LineKept.gatherRoll (h : LineKept s₀ s) (r : RollRecord) : LineKept s₀ (s.gatherRoll r) := by
  unfold State.gatherRoll
  dsimp only
  split
  · split
    · exact h.setCc _
    · exact (h.setCc _).testClosure
  · split
    · exact h
    · exact (h.setCc _).post _

theorem LineKept.compareRoll (h : LineKept s₀ s) (r : RollRecord) : LineKept s₀ (s.compareRoll r) := by
  unfold State.compareRoll
  split
  · split
    · exact h
    · exact h.startFormation _
  · exact h

theorem LineKept.takeRoll (h : LineKept s₀ s) (f : Frame) : LineKept s₀ (s.takeRoll f) := by
  unfold State.takeRoll
  split
  · exact h
  · split
    case h_1 => exact h.gatherRoll _
    case h_2 | h_3 => exact h.compareRoll _
    all_goals exact h

theorem LineKept.renewOwnRecord (h : LineKept s₀ s) : LineKept s₀ s.renewOwnRecord := by
  unfold State.renewOwnRecord
  split
  · exact h.insertOwnRecord.testClosure
  · exact h

theorem LineKept.acceptCab (h : LineKept s₀ s) (claim : Bool) : LineKept s₀ (s.acceptCab claim) := by
  unfold State.acceptCab
  split
  case h_1 => exact ((h.setCc _).setCc _).post _
  case h_2 => exact (h.setCc _).setCc _
  all_goals exact (h.setCc _).startFormation _

theorem LineKept.cabRequest (h : LineKept s₀ s) (code : Byte) : LineKept s₀ (s.cabRequest code).1 := by
  unfold State.cabRequest
  split
  · exact h
  · split
    · exact h
    · split
      · exact h
      · split
        · exact h
        · exact h.acceptCab _

theorem LineKept.reportAdjacency (h : LineKept s₀ s) : LineKept s₀ s.reportAdjacency := by
  by_cases start : s.cc.formState = .start
  · rw [s.reportAdjacency_start start]
    exact h
  · rw [s.reportAdjacency_running start]
    exact h.startFormation _

/-! ### End links (R1, R6 to R10) -/

theorem LineKept.arriveBeacon (h : LineKept s₀ s) (e : CoachEnd) (bytes : List Byte) :
    LineKept s₀ (s.arriveBeacon e bytes) := by
  unfold State.arriveBeacon State.takeBeacon
  split
  · dsimp only
    split
    · exact h.setEnd _ _
    · exact (h.setEnd _ _).reportAdjacency
  · exact h.count _

theorem LineKept.endFaulty (h : LineKept s₀ s) (e : CoachEnd) : LineKept s₀ (s.endFaulty e) := (h.setEnd _ _).count _

theorem LineKept.endFaultyBy (h : LineKept s₀ s) (e : CoachEnd) (t : Time) : LineKept s₀ (s.endFaultyBy e t) := by
  unfold State.endFaultyBy
  split
  · split
    · exact (h.advanceTo _).endFaulty _
    · exact h
  · exact h

theorem LineKept.receiveChar (h : LineKept s₀ s) (e : CoachEnd) (c : LineChar) : LineKept s₀ (s.receiveChar e c) := by
  have ended : LineKept s₀ ((s.endFaultyBy e c.start).advanceTo (c.start + Config.tECHR)) :=
    (h.endFaultyBy e c.start).advanceTo _
  unfold State.receiveChar
  split
  · exact h
  · dsimp only
    split
    · exact (ended.setEnd _ _).arriveBeacon _ _
    · exact ended.setEnd _ _

theorem LineKept.receiveChars (h : LineKept s₀ s) (e : CoachEnd) (chars : List LineChar) :
    LineKept s₀ (s.receiveChars e chars) := by
  unfold State.receiveChars
  induction chars generalizing s with
  | nil => exact h
  | cons c cs ih => exact ih (h.receiveChar e c)

/-! ### The receive path and the LHU (R78 to R93) -/

theorem LineKept.noteRise (h : LineKept s₀ s) (before after : Nat) : LineKept s₀ (s.noteRise before after) := by
  unfold State.noteRise
  split
  · exact (h.setLhu _).submitHold _
  · exact h

theorem LineKept.noteFall (h : LineKept s₀ s) (after : Nat) : LineKept s₀ (s.noteFall after) := by
  unfold State.noteFall
  split
  · exact (h.setLhu _).submitHold _
  · exact h

theorem LineKept.enqueue (h : LineKept s₀ s) (f : Frame) : LineKept s₀ (s.enqueue f) := by
  unfold State.enqueue
  dsimp only
  split
  · exact (h.setRxp _).noteRise _ _
  · exact (h.setRxp _).count _

theorem LineKept.endReception (h : LineKept s₀ s) (r : Reception) : LineKept s₀ (s.endReception r) := by
  unfold State.endReception State.routeFrame
  split
  · split
    · exact LineKept.setLhu (h.count _) _
    · split
      · exact ((h.count _).sight _).enqueue _
      · exact h.count _
  · exact h.count _

theorem LineKept.consume (h : LineKept s₀ s) (f : Frame) : LineKept s₀ (s.consume f) := by
  unfold State.consume
  cases f.kind with
  | reform | hold => exact h
  | roll => exact h.takeRoll f
  | tally => exact h.takeTally f
  | doorcmd => exact h.takeDoorcmd f
  | doorstat => exact h.takeDoorstat f
  | heatbid => exact h.takeHeatbid f

theorem LineKept.takeHead (h : LineKept s₀ s) (f : Frame) (rest : List Frame) : LineKept s₀ (s.takeHead f rest) := by
  have fallen := (h.setRxp { s.rxp with queue := rest }).noteFall rest.length
  unfold State.takeHead
  dsimp only
  split
  · exact fallen.consume f
  · exact fallen.count _

/-! ### The transmitter (R63 to R75) -/

/-- A move of the transmitter that leaves the store. -/
theorem LineKept.setTransmitter (h : LineKept s₀ s) {tx : TxState} {current : Option CurrentFrame} {idleFrom : Time}
    {draws : Nat} (framed : s.lau.framed → (tx = .ready ↔ current = none)) :
    LineKept s₀
      (s.setLau { s.lau with tx := tx, current := current, idleFrom := idleFrom, draws := draws }) :=
  h.setLau (fun sound => sound.of_store rfl rfl rfl rfl rfl) framed

theorem LineKept.toReady (h : LineKept s₀ s) : LineKept s₀ (s.setLau s.lau.toReady) :=
  h.setTransmitter fun _ => iff_of_true rfl rfl

theorem LineKept.stopDriving (h : LineKept s₀ s) : LineKept s₀ s.stopDriving := h.setTransmitter id

theorem LineKept.holdSent (h : LineKept s₀ s) (f : Frame) : LineKept s₀ (s.holdSent f) := by
  rw [s.holdSent_eq f]
  exact (h.count _).setLhu _

theorem LineKept.holdLost (h : LineKept s₀ s) (f : Frame) : LineKept s₀ (s.holdLost f) := by
  unfold State.holdLost
  split
  · exact h.submitHold _
  · exact h

/-- A result reaches the LHU, the schedule, or the time of the last bid (R74). -/
theorem LineKept.giveResult (h : LineKept s₀ s) (f : Frame) (r : TxResult) : LineKept s₀ (s.giveResult f r) := by
  unfold State.giveResult
  split
  case h_1 | h_2 | h_3 => exact h.copyEnded f
  case h_4 => exact h.copyStale f
  case h_5 => exact h.setHsu _
  case h_6 => exact h.holdSent f
  case h_7 | h_8 => exact h.holdLost f
  all_goals exact h

theorem LineKept.attempt (h : LineKept s₀ s) (c : CurrentFrame) : LineKept s₀ (s.attempt c) := by
  unfold State.attempt
  split
  · refine LineKept.setRxp (h.setTransmitter fun _ => ?_) _
    exact iff_of_false (fun ready => nomatch ready) (fun none => nomatch none)
  · exact h.toReady.giveResult _ _

theorem LineKept.takeCandidate (h : LineKept s₀ s) : LineKept s₀ s.takeCandidate := by
  cases candidate : s.candidate with
  | none =>
    unfold State.takeCandidate
    rw [candidate]
    exact h
  | some found =>
    obtain ⟨place, f⟩ := found
    obtain ⟨port, taken, -, -⟩ := s.taken_eq place f
    rw [s.takeCandidate_some place f candidate, taken]
    refine LineKept.attempt (LineKept.setPort (h.setLau (fun sound => sound.removeHead place) fun framed => ?_) _) _
    cases place <;> exact framed

theorem LineKept.giveUp (h : LineKept s₀ s) (f : Frame) (r : TxResult) : LineKept s₀ (s.giveUp f r) := by
  obtain ⟨port, posted, -, -⟩ := s.postAbandoned_eq f
  unfold State.giveUp
  rw [posted]
  exact ((h.setPort _).giveResult f r).toReady

/-- Back-off keeps the frame that the jam was for. -/
theorem LineKept.backOff (h : LineKept s₀ s) (c : CurrentFrame) (jam : s.lau.tx ≠ .ready) :
    LineKept s₀ (s.backOff c) :=
  h.setTransmitter fun framed => iff_of_false (fun ready => nomatch ready) (mt framed.mpr jam)

theorem LineKept.afterJam (h : LineKept s₀ s) (c : CurrentFrame) (jam : s.lau.tx ≠ .ready) :
    LineKept s₀ (s.afterJam c) := by
  unfold State.afterJam
  split
  · exact h.toReady
  · refine LineKept.toReady ?_
    split
    · exact h.count _
    · exact h
  · split
    · exact (h.count _).giveUp _ _
    · split
      · exact (h.count _).giveUp _ _
      · exact h.backOff c jam

/-- A collision jams the frame that is being sent (R69). -/
theorem LineKept.collide (h : LineKept s₀ s) (p : Nat) (sending : s.lau.tx ≠ .ready) (jam : TxState)
    (jams : jam ≠ .ready) :
    LineKept s₀ (s.setLau { s.lau with tx := jam, current := s.lau.current.map (fun c => c.collide p) }) :=
  h.setTransmitter fun framed => iff_of_false jams (by simpa using mt framed.mpr sending)

theorem LineKept.lineReset (h : LineKept s₀ s) : LineKept s₀ s.lineReset := by
  refine LineKept.setDcu (((h.setLau (fun _ => s.lau.lineReset_sound) fun framed => framed.lineReset).setRxp _).setLhu
    _) fun _ => ?_
  exact nofun

end Moves

end Sys2Proof.Machine
end

section
/-! The settled statement about the transmit store and the transmitter (R58, R61 to R63, R73, R132): every command
keeps their invariants. -/

namespace Sys2Proof.Machine

/-! ### When a command acts (R169; log entries 1 and 2) -/

section Occasions

variable {s₀ s : State}

/-- An event of the node's own keeps the line when it does so at its occasion. -/
theorem LineKept.onOccasion (h : LineKept s₀ s) (o : Option Time) {act : State → State}
    (keeps : ∀ t, o = some t → LineKept s₀ (act (s.advanceTo t))) : LineKept s₀ (s.onOccasion o act) := by
  obtain same | ⟨t, occasion, -, acts⟩ := s.onOccasion_cases o act
  · rwa [same]
  · rw [acts]
    exact keeps t occasion

theorem LineKept.inService (h : LineKept s₀ s) {act : State → State} (keeps : LineKept s₀ (act s)) :
    LineKept s₀ (s.inService act) := by
  cases hr : s.inReset
  · rwa [s.inService_running act hr]
  · rwa [s.inService_inReset act hr]

theorem LineKept.takeRequest {act : State → State × List Byte} (keeps : LineKept s₀ (act s).1) :
    LineKept s₀ (s.takeRequest act) :=
  keeps.setPort _

theorem LineKept.onRequest (h : LineKept s₀ s) (i : Instr) {act : State → State × List Byte}
    (keeps : ∀ t, LineKept s₀ t → LineKept s₀ (act t).1) : LineKept s₀ (s.onRequest i act) := by
  obtain same | acts | acts := s.onRequest_cases i act
  · rwa [same]
  · rw [acts]
    exact LineKept.takeRequest (keeps s h)
  · rw [acts]
    exact LineKept.takeRequest (keeps _ (h.setPort _))

end Occasions

/-! ### Every command -/

/-- The state of an outcome, if it is one, keeps the line. -/
def KeepsLine (s : State) (o : Host.Outcome State Fault Refusal) : Prop := ∀ t, o = .next t → LineKept s t

theorem keepsLine_next {s t : State} (h : LineKept s t) : KeepsLine s (.next t) := by
  intro u next
  exact Host.Outcome.next.inj next ▸ h

/-- An event of the node's own whose act keeps the line in every state. -/
theorem keepsLine_occasion {s : State} {o : Option Time} {act : State → State}
    (keeps : ∀ t, LineKept s t → LineKept s (act t)) : KeepsLine s (.next (s.onOccasion o act)) :=
  keepsLine_next ((LineKept.refl s).onOccasion o fun _ _ => keeps _ ((LineKept.refl s).advanceTo _))

/-- An event from outside, with its pin, whose act keeps the line in every state. -/
theorem keepsLine_service {s t : State} {act : State → State} (pin : LineKept s t)
    (keeps : ∀ t, LineKept s t → LineKept s (act t)) : KeepsLine s (.next (t.inService act)) :=
  keepsLine_next (pin.inService (keeps t pin))

/-- A request whose act keeps the line in every state. -/
theorem keepsLine_request {s : State} {i : Instr} {act : State → State × List Byte}
    (keeps : ∀ t, LineKept s t → LineKept s (act t).1) : KeepsLine s (.next (s.onRequest i act)) :=
  keepsLine_next ((LineKept.refl s).onRequest i keeps)

/-- A request of the port that reads, or writes the port alone. -/
theorem keepsLine_portRequest {s : State} {i : Instr} {act : State → State × List Byte}
    (port : ∀ t : State, (act t).1.lau = t.lau ∧ (act t).1.dcu.schedule = t.dcu.schedule) :
    KeepsLine s (.next (s.onRequest i act)) :=
  keepsLine_request fun t h => h.quiet (port t)

section Commands

variable (s : State)

theorem execExternalResetAssert_keepsLine : KeepsLine s (execExternalResetAssert s) := by
  refine keepsLine_next ?_
  split
  · exact .refl s
  · exact .atRelease rfl rfl

theorem execTallyRepeat_keepsLine : KeepsLine s (execTallyRepeat s) := by
  refine keepsLine_occasion fun t h => ?_
  split
  · exact (h.setCc _).submitTally _
  · exact h

/-- Back-off ends with the frame that it was for. -/
theorem execBackoffExpiry_keepsLine : KeepsLine s (execBackoffExpiry s) := by
  refine keepsLine_next ((LineKept.refl s).onOccasion _ fun t occasion => ?_)
  refine ((LineKept.refl s).advanceTo t).setTransmitter fun framed => ?_
  have backoff : s.lau.tx ≠ .ready := by
    intro ready
    simp [State.backoffOccasion, ready] at occasion
  exact iff_of_false (fun ready => nomatch ready) (mt framed.mpr backoff)

/-- A frame that collides is being sent. -/
theorem execCollision_keepsLine (p : Nat) : KeepsLine s (execCollision p s) := by
  refine keepsLine_next ((LineKept.refl s).onOccasion _ fun t occasion => LineKept.count ?_ _)
  have sending : s.lau.tx ≠ .ready := by
    intro ready
    simp [State.collisionOccasion, ready] at occasion
  exact ((LineKept.refl s).advanceTo t).collide p sending _ fun ready => nomatch ready

theorem execJamEnd_keepsLine : KeepsLine s (execJamEnd s) := by
  refine keepsLine_next ((LineKept.refl s).onOccasion _ fun t occasion => ?_)
  have stopped := ((LineKept.refl s).advanceTo t).stopDriving
  have jam : s.lau.tx ≠ .ready := by
    intro ready
    simp [State.jamOccasion, ready] at occasion
  split
  · exact stopped.afterJam _ jam
  · exact stopped.toReady

theorem execFrameSent_keepsLine : KeepsLine s (execFrameSent s) := by
  refine keepsLine_occasion fun t h => ?_
  split
  · exact ((h.count _).toReady.stopDriving).giveResult _ _
  · exact h

theorem execRetryAttempt_keepsLine : KeepsLine s (execRetryAttempt s) := by
  refine keepsLine_occasion fun t h => ?_
  split
  · exact h.attempt _
  · exact h

/-- The end of the carrier of other nodes ends a reception (R77, R78). -/
theorem execFrameArrival_keepsLine (r : Reception) : KeepsLine s (execFrameArrival r s) := by
  refine keepsLine_next ?_
  split
  case isFalse => exact .refl s
  case isTrue =>
    have pin := (LineKept.refl s).setPins { s.pins with peerCarrier := false }
    have idle : LineKept s (State.endCarrier (s.setPins { s.pins with peerCarrier := false })) :=
      pin.setTransmitter id
    refine pin.inService ?_
    dsimp only
    split
    · exact (idle.setRxp _).endReception r
    · exact idle

theorem execCarrierOnset_keepsLine : KeepsLine s (execCarrierOnset s) := by
  refine keepsLine_service ((LineKept.refl s).setPins _) fun t h => ?_
  split
  · exact h.setRxp _
  · exact h

theorem execFrameTake_keepsLine : KeepsLine s (execFrameTake s) := by
  refine keepsLine_occasion fun t h => ?_
  split
  · exact h.takeHead _ _
  · exact h

theorem execRawLeafInputChange_keepsLine (i : Nat) (input : LeafInput) (level : Bool) :
    KeepsLine s (execRawLeafInputChange i input level s) := by
  refine keepsLine_service ((LineKept.refl s).setPins _) fun t h => ?_
  split
  · exact h.quiet ⟨rfl, rfl⟩
  · exact h

theorem execLeafInputFiltered_keepsLine (i : Nat) (input : LeafInput) :
    KeepsLine s (execLeafInputFiltered i input s) := by
  refine keepsLine_occasion fun t h => ?_
  split
  · exact h.takeClChange _
  · exact h.takeObChange _
  · exact h

theorem execLockComplete_keepsLine (i : Nat) : KeepsLine s (execLockComplete i s) := by
  refine keepsLine_occasion fun t h => ?_
  split
  · exact (h.putLeaf _ _).settleLeaves
  · exact h

theorem execUnlockFault_keepsLine (i : Nat) : KeepsLine s (execUnlockFault i s) := by
  refine keepsLine_occasion fun t h => ?_
  split
  · exact h.faultLeaf _ _
  · exact h

theorem execLeafRecovery_keepsLine (i : Nat) : KeepsLine s (execLeafRecovery i s) := by
  refine keepsLine_occasion fun t h => ?_
  split
  · exact ((h.putLeaf _ _).post _).settleLeaves
  · exact h

theorem execAllocationEnd_keepsLine : KeepsLine s (execAllocationEnd s) := by
  refine keepsLine_service (.refl s) fun t h => ?_
  split
  · exact h.endAllocation _
  · exact h

theorem execUnknownRequest_keepsLine (kind : Byte) : KeepsLine s (execUnknownRequest kind s) := by
  refine keepsLine_next ?_
  split
  · exact (LineKept.refl s).onRequest _ fun _ h => h
  · unfold State.clockByte
    split
    · exact .refl s
    · exact (LineKept.refl s).setPort _

theorem execChipSelectRise_keepsLine : KeepsLine s (execChipSelectRise s) := by
  refine keepsLine_next ?_
  split
  · exact ((LineKept.refl s).setPins _).inService (((LineKept.refl s).setPins _).setPort _)
  · exact .refl s

theorem execChipSelectFall_keepsLine : KeepsLine s (execChipSelectFall s) := by
  refine keepsLine_next ?_
  split
  · exact .refl s
  · exact ((LineKept.refl s).setPins _).inService (((LineKept.refl s).setPins _).setPort _)

theorem execResponseReady_keepsLine : KeepsLine s (execResponseReady s) := by
  refine keepsLine_service (.refl s) fun t h => ?_
  split
  · exact h.setPort _
  · exact h

/-- Every command keeps the line: those of the transmitter by their lemmas, the others by what they submit. -/
theorem exec_keepsLine (i : Instr) : KeepsLine s (exec i s) := by
  cases i with
  | externalResetAssert => exact execExternalResetAssert_keepsLine s
  | externalResetRelease pins => exact keepsLine_next (.atRelease rfl rfl)
  | rawContactChange => exact keepsLine_service ((LineKept.refl s).setPins _) fun t h => h.setEnd _ _
  | debouncedContactActive | endBeaconSend => exact keepsLine_occasion fun t h => h.setEnd _ _
  | debouncedContactLost | beaconLoss => exact keepsLine_occasion fun t h => (h.setEnd _ _).reportAdjacency
  | endBeaconArrival e chars => exact keepsLine_service (.refl s) fun t h => h.receiveChars e chars
  | faultyReception => exact keepsLine_occasion fun t h => h.endFaulty _
  | tstartExpiry => exact keepsLine_occasion fun t h => h.startFormation _
  | rollRepeat => exact keepsLine_occasion fun t h => (LineKept.submitRoll (h.setCc _)).renewOwnRecord
  | gatherTimeout => exact keepsLine_occasion fun t h => h.setCc _
  | orderingEnd => exact keepsLine_service (.refl s) fun t h => h.endOrdering
  | tallyRepeat => exact execTallyRepeat_keepsLine s
  | tallyTimeout => exact keepsLine_occasion fun t h => h.failFormation _
  | memberSilent => exact keepsLine_occasion fun t h => (h.setCc _).post _
  | reform => exact keepsLine_request fun t h => h.startFormation _
  | cabClaim code | cabRelease code => exact keepsLine_request fun t h => h.cabRequest code
  | transmitTake => exact keepsLine_occasion fun t h => h.takeCandidate
  | breakthroughEligible => exact keepsLine_occasion fun t h => h
  | carrierOnset => exact execCarrierOnset_keepsLine s
  | frameSent => exact execFrameSent_keepsLine s
  | collision p => exact execCollision_keepsLine s p
  | jamEnd => exact execJamEnd_keepsLine s
  | backoffExpiry => exact execBackoffExpiry_keepsLine s
  | retryAttempt => exact execRetryAttempt_keepsLine s
  | lineReset => exact keepsLine_request fun t h => h.lineReset
  | frameArrival r => exact execFrameArrival_keepsLine s r
  | frameTake => exact execFrameTake_keepsLine s
  | holdResend => exact keepsLine_occasion fun t h => (h.setLhu _).submitHold _
  | ownHoldExpiry | holdExpiry => exact keepsLine_occasion fun t h => h.setLhu _
  | aMatch => exact keepsLine_occasion fun t h => (h.setOtb _).takeAMatch _
  | bMatch => exact keepsLine_occasion fun t h => (h.setOtb _).takeBMatch _
  | pwmCompareA | pwmPeriodEnd => exact keepsLine_occasion fun t h => h.setOtb _
  | rawLeafInputChange i input level => exact execRawLeafInputChange_keepsLine s i input level
  | leafInputFiltered i input => exact execLeafInputFiltered_keepsLine s i input
  | lockComplete i => exact execLockComplete_keepsLine s i
  | unlockFault i => exact execUnlockFault_keepsLine s i
  | leafRecovery i => exact execLeafRecovery_keepsLine s i
  | isolateOn leaf onOff | isolateOff leaf onOff => exact keepsLine_request fun t h => h.isolateRequest leaf onOff
  | doorIssueRelease action side lo hi | doorIssueClose action side lo hi =>
    exact keepsLine_request fun t h => h.doorIssue action side lo hi
  | doorcmdRepeat seq => exact keepsLine_occasion fun t h => h.repeatCopy seq
  | doorstatPeriod =>
    exact keepsLine_occasion fun t h => (h.setDcu_sameSchedule _ t.dcu.takeDoorstatExpiry_schedule).submitDoorstat
  | doorstatStale => exact keepsLine_occasion fun t h => (h.setDcu_sameSchedule _).evalDoorsSecure
  | heatDemand channel frost comfort =>
    exact keepsLine_request fun t h => h.heatDemandRequest channel frost comfort
  | supplyOffer offer => exact keepsLine_request fun t h => h.supplyOfferRequest offer
  | heatbidPeriod => exact keepsLine_occasion fun t h => (h.setHsu _).submitHeatbid
  | bidStale | settleExpiry => exact keepsLine_occasion fun t h => (h.setHsu _).triggerAllocation
  | allocationEnd => exact execAllocationEnd_keepsLine s
  | holdOverExpiry => exact keepsLine_occasion fun t h => (h.setHsu _).applyGrant _
  | status | straps => exact keepsLine_request fun t h => h
  | consistRead | noticeTake | counterRead | counterDecrement =>
    exact keepsLine_portRequest fun t => by split <;> exact ⟨rfl, rfl⟩
  | unknownRequest kind => exact execUnknownRequest_keepsLine s kind
  | chipSelectRise => exact execChipSelectRise_keepsLine s
  | responseReady => exact execResponseReady_keepsLine s
  | chipSelectFall => exact execChipSelectFall_keepsLine s

end Commands

/-- Every step keeps the line: by the command at the front of the queue, or by the node's own time. -/
theorem step_keepsLine (s : State) : KeepsLine s (step s) := by
  intro t next
  unfold step at next
  split at next
  case h_1 c rest _ =>
    obtain ⟨store, transmitter⟩ := exec_keepsLine { s with pending := rest } c t next
    exact ⟨store, transmitter⟩
  case h_2 =>
    obtain rfl := Host.Outcome.next.inj next
    refine (LineKept.refl s).quiet ?_
    unfold State.idle
    split <;> exact ⟨rfl, rfl⟩

/-- Settles O4: each invariant is one half of what every step keeps of the line. -/
theorem transmitStoreSoundKept : Obligations.TransmitStoreSoundKept :=
  ⟨fun s t h next => (step_keepsLine s t next).store h, fun s t h next => (step_keepsLine s t next).transmitter h⟩

end Sys2Proof.Machine
end

section
/-! SUPPORT. The channels of the Output Timer Bank: one rule per operation on a channel and on the bank (R98 to R105,
R163). -/

namespace Sys2Proof.Machine

/-! ### The dispatcher, for the commands of the channels -/

theorem exec_aMatch (i : Nat) (s : State) : exec (.aMatch i) s = execAMatch i s := rfl

theorem exec_bMatch (i : Nat) (s : State) : exec (.bMatch i) s = execBMatch i s := rfl

theorem exec_pwmCompareA (i : Nat) (s : State) : exec (.pwmCompareA i) s = execPwmCompareA i s := rfl

theorem exec_pwmPeriodEnd (i : Nat) (s : State) : exec (.pwmPeriodEnd i) s = execPwmPeriodEnd i s := rfl

/-! ### One channel of the bank -/

theorem Otb.modify_channel?_same (o : Otb) (i : Nat) (f : Channel → Channel) (c : Channel)
    (hc : o.channel? i = some c) : (o.modify i f).channel? i = some (f c) := by
  rw [o.modify_channel?, if_pos rfl, hc, Option.map_some]

theorem Otb.modify_channel?_other (o : Otb) (i j : Nat) (f : Channel → Channel) (h : i ≠ j) :
    (o.modify i f).channel? j = o.channel? j := by
  rw [o.modify_channel?, if_neg h]

/-- A change of a channel of the bank writes it in its place. -/
theorem Otb.modify_eq_set (o : Otb) (i : Nat) (f : Channel → Channel) (c : Channel) (hc : o.channel? i = some c) :
    o.modify i f = { channels := o.channels.set i (f c) } := by
  have found : o.channels[i]? = some c := hc
  have inhabited : Inhabited Channel := ⟨c⟩
  rw [Otb.modify, List.modify_eq_set, found, Option.getD_some]

theorem Otb.modify_length (o : Otb) (i : Nat) (f : Channel → Channel) :
    (o.modify i f).channels.length = o.channels.length :=
  by rw [Otb.modify, List.length_modify]

/-- The bank has a channel below its length. -/
theorem Otb.channel?_below (o : Otb) (i : Nat) (h : i < o.channels.length) : ∃ c, o.channel? i = some c :=
  ⟨o.channels[i], List.getElem?_eq_getElem h⟩

/-! ### PWM periods (R101, R105) -/

theorem Channel.lengthening_none (c : Channel) (h : c.pendingOffset = none) : c.lengthening = 0 := by
  rw [Channel.lengthening, h]

theorem Channel.lengthening_some (c : Channel) (o : Nat) (h : c.pendingOffset = some o) :
    c.lengthening = (o + (2000 - c.offset % 2000)) % 2000 := by
  rw [Channel.lengthening, h]

/-- The event of a heater channel at its occasion. -/
theorem State.heaterEvent_eq (s : State) (i : Nat) (c : Channel) (at_ : Channel → Option Time) (t : Time)
    (f : Channel → Channel) (hr : s.inReset = false) (hi : 8 ≤ i) (hc : s.otb.channel? i = some c)
    (due : at_ c = some t) :
    s.onOccasion (s.heaterChannelOccasion i at_) (fun s => s.setOtb (s.otb.modify i f))
      = (s.advanceTo t).setOtb { channels := s.otb.channels.set i (f c) } := by
  have occasion : s.heaterChannelOccasion i at_ = some t := by
    rw [State.heaterChannelOccasion, if_pos hi, hc, Option.bind_some, due]
  rw [occasion, State.onOccasion_some _ _ _ hr, State.advanceTo_otb, s.otb.modify_eq_set i f c hc]

theorem Channel.pwmCompareAAt_active (c : Channel) (mode : c.mode = .pwm) (active : c.output = true)
    (inside : c.compareA < c.compareB) : c.pwmCompareAAt = some (c.reaches c.compareA) :=
  if_pos ⟨mode, active, inside⟩

theorem Channel.pwmPeriodEndAt_over (c : Channel) (mode : c.mode = .pwm)
    (ended : c.output = false ∨ c.compareB ≤ c.compareA) : c.pwmPeriodEndAt = some (c.reaches c.compareB) :=
  if_pos ⟨mode, ended⟩

theorem Channel.pwmPeriodEndAt_mode (c : Channel) (t : Time) (h : c.pwmPeriodEndAt = some t) : c.mode = .pwm := by
  unfold Channel.pwmPeriodEndAt at h
  split at h
  case isTrue due => exact due.1
  case isFalse => nomatch h

/-! ### Duty writes and stops (R101 to R103, R163) -/

theorem Channel.writeDuty_off (c : Channel) (now : Time) (duty : Nat) (mode : c.mode = .off) :
    c.writeDuty now duty =
      { c with
        mode := .pwm, base := (now / 1000 % 2000 + (2000 - c.offset % 2000)) % 2000, since := now / 1000 * 1000
        compareA := 0, compareB := 2000, output := false
        pendingA := if 2 * min duty 1000 = 0 then none else some (2 * min duty 1000) } := by
  rw [Channel.writeDuty, Nat.mul_comm (min duty 1000) 2]
  simp only [mode, bankPhase]

/-- A decrease acts at once (R102). -/
theorem Channel.writeDuty_decrease (c : Channel) (now : Time) (duty : Nat) (mode : c.mode = .pwm)
    (less : 2 * min duty 1000 ≤ c.compareA) :
    c.writeDuty now duty =
      { c with
        compareA := 2 * min duty 1000, pendingA := none
        output := c.output && decide (c.base + (now - c.since) / 1000 < 2 * min duty 1000) } := by
  rw [Channel.writeDuty, Nat.mul_comm (min duty 1000) 2]
  simp only [mode, if_pos less, Channel.counterAt]

/-- An increase waits for the next period (R102). -/
theorem Channel.writeDuty_increase (c : Channel) (now : Time) (duty : Nat) (mode : c.mode = .pwm)
    (more : c.compareA < 2 * min duty 1000) :
    c.writeDuty now duty = { c with pendingA := some (2 * min duty 1000) } := by
  rw [Channel.writeDuty, Nat.mul_comm (min duty 1000) 2]
  simp only [mode, if_neg (Nat.not_le.mpr more)]

theorem Channel.stopPwm_off (c : Channel) (mode : c.mode = .off) : c.stopPwm = c := by
  rw [Channel.stopPwm, mode]

theorem Channel.stopPwm_pwm (c : Channel) (mode : c.mode = .pwm) :
    c.stopPwm =
      { c with
        mode := .off, base := 0, output := false, compareA := 0, pendingA := none
        offset := c.pendingOffset.getD c.offset, pendingOffset := none } := by
  rw [Channel.stopPwm, mode]

/-- What a channel's target does to it (R163): one that stays sends nothing, 0 sends a stop, another a duty write. -/
def Channel.takeTarget (c : Channel) (now : Time) (old target : Nat) : Channel :=
  if target = old then c else if target = 0 then c.stopPwm else c.writeDuty now target

theorem Channel.takeTarget_same (c : Channel) (now : Time) (old : Nat) : c.takeTarget now old old = c :=
  if_pos rfl

theorem Channel.takeTarget_zero (c : Channel) (now : Time) (old : Nat) (h : 0 ≠ old) :
    c.takeTarget now old 0 = c.stopPwm := by
  rw [Channel.takeTarget, if_neg h, if_pos rfl]

theorem Channel.takeTarget_write (c : Channel) (now : Time) (old target : Nat) (h : target ≠ old)
    (positive : target ≠ 0) : c.takeTarget now old target = c.writeDuty now target := by
  rw [Channel.takeTarget, if_neg h, if_neg positive]

/-! ### The targets sent to the bank (R163) -/

/-- A target goes to the channel it is for. -/
theorem Otb.sendTarget_channel? (o : Otb) (now : Time) (k old target i : Nat) :
    (o.sendTarget now k old target).channel? i
      = if 8 + k = i then (o.channel? i).map (fun c => c.takeTarget now old target) else o.channel? i := by
  unfold Otb.sendTarget Channel.takeTarget
  by_cases same : target = old
  · simp [same]
  · by_cases zero : target = 0
    · simp only [if_neg same, if_pos zero, Otb.modify_channel?]
    · simp only [if_neg same, if_neg zero, Otb.modify_channel?]

theorem Otb.sendTarget_length (o : Otb) (now : Time) (k old target : Nat) :
    (o.sendTarget now k old target).channels.length = o.channels.length := by
  unfold Otb.sendTarget
  split
  · rfl
  · split <;> rw [Otb.modify_length]

theorem Otb.sendTargets_length (o : Otb) (now : Time) (k : Nat) (olds targets : List Nat) :
    (o.sendTargets now k olds targets).channels.length = o.channels.length := by
  induction olds generalizing o k targets with
  | nil => rfl
  | cons old olds ih =>
    cases targets with
    | nil => rfl
    | cons target targets => rw [Otb.sendTargets, ih, Otb.sendTarget_length]

/-- The targets from channel k on reach no channel before it. -/
theorem Otb.sendTargets_channel?_before (o : Otb) (now : Time) (k : Nat) (olds targets : List Nat) (i : Nat)
    (h : i < 8 + k) : (o.sendTargets now k olds targets).channel? i = o.channel? i := by
  induction olds generalizing o k targets with
  | nil => rfl
  | cons old olds ih =>
    cases targets with
    | nil => rfl
    | cons target targets => rw [Otb.sendTargets, ih _ _ _ (by omega), o.sendTarget_channel?, if_neg (by omega)]

/-- Each channel of the list gets its own target. -/
theorem Otb.sendTargets_channel? (o : Otb) (now : Time) (k : Nat) (olds targets : List Nat) (j old target : Nat)
    (hold : olds[j]? = some old) (htarget : targets[j]? = some target) :
    (o.sendTargets now k olds targets).channel? (8 + (k + j))
      = (o.channel? (8 + (k + j))).map (fun c => c.takeTarget now old target) := by
  induction olds generalizing o k targets j with
  | nil => nomatch hold
  | cons old' olds ih =>
    cases targets with
    | nil => nomatch htarget
    | cons target' targets =>
      rw [Otb.sendTargets]
      cases j with
      | zero =>
        obtain rfl : old' = old := by simpa using hold
        obtain rfl : target' = target := by simpa using htarget
        rw [Otb.sendTargets_channel?_before _ _ _ _ _ _ (by omega), o.sendTarget_channel?]
        exact if_pos rfl
      | succ j =>
        have later := ih (o.sendTarget now k old' target') (k + 1) targets j (by simpa using hold)
          (by simpa using htarget)
        rw [show k + (j + 1) = k + 1 + j by omega, later, o.sendTarget_channel?, if_neg (by omega)]

/-- The conversion sends each present channel its target. -/
theorem State.convertDuties_channel? (s : State) (k old target : Nat) (hold : s.hsu.targets[k]? = some old)
    (htarget : s.duties[k]? = some target) :
    s.convertDuties.otb.channel? (8 + k) = (s.otb.channel? (8 + k)).map (fun c => c.takeTarget s.now old target) := by
  have sent := s.otb.sendTargets_channel? s.now 0 s.hsu.targets s.duties k old target hold htarget
  rwa [Nat.zero_add] at sent

/-! ### Stagger (R104) -/

theorem Channel.setOffset_same (c : Channel) (o : Nat) (h : o = c.offset) :
    c.setOffset o = { c with pendingOffset := none } :=
  if_pos h

theorem Channel.setOffset_off (c : Channel) (o : Nat) (h : o ≠ c.offset) (mode : c.mode = .off) :
    c.setOffset o = { c with offset := o } := by
  rw [Channel.setOffset, if_neg h, mode]

theorem Channel.setOffset_pwm (c : Channel) (o : Nat) (h : o ≠ c.offset) (mode : c.mode = .pwm) :
    c.setOffset o = { c with pendingOffset := some o } := by
  rw [Channel.setOffset, if_neg h, mode]

/-- Changes of the heater channels of a list reach each of them once and no other channel. -/
theorem Otb.foldl_modify_channel? (o : Otb) (f : Nat → Channel → Channel) (ks : List Nat) (nodup : ks.Nodup) (i : Nat) :
    (ks.foldl (fun o k => o.modify (8 + k) (f k)) o).channel? i
      = if 8 ≤ i ∧ i - 8 ∈ ks then (o.channel? i).map (f (i - 8)) else o.channel? i := by
  induction ks generalizing o with
  | nil => simp
  | cons k ks ih =>
    obtain ⟨new, nodup⟩ := List.nodup_cons.mp nodup
    rw [List.foldl_cons, ih _ nodup, o.modify_channel?]
    by_cases here : 8 + k = i
    · subst here
      simp [new]
    · have other : 8 ≤ i → i - 8 ≠ k := by omega
      by_cases heater : 8 ≤ i <;> simp [here, heater, other]

/-- A stagger setting gives each present heater channel its offset, and reaches no other channel. -/
theorem Otb.stagger_channel? (o : Otb) (heaters p n i : Nat) (h : 1 ≤ p ∧ p ≤ n ∧ n ≤ 32) :
    (o.stagger heaters p n).channel? i
      = if 8 ≤ i ∧ i < 8 + heaters then (o.channel? i).map (fun c => c.setOffset (staggerOffset p n (i - 8)))
        else o.channel? i := by
  rw [Otb.stagger, if_pos h, Otb.foldl_modify_channel? o (fun k c => c.setOffset (staggerOffset p n k)) _
    List.nodup_range]
  have present : (8 ≤ i ∧ i - 8 ∈ List.range heaters) ↔ (8 ≤ i ∧ i < 8 + heaters) := by
    rw [List.mem_range]
    omega
  simp only [present]

theorem Otb.stagger_invalid (o : Otb) (heaters p n : Nat) (h : ¬(1 ≤ p ∧ p ≤ n ∧ n ≤ 32)) :
    o.stagger heaters p n = o :=
  if_neg h

theorem Otb.stagger_length (o : Otb) (heaters p n : Nat) :
    (o.stagger heaters p n).channels.length = o.channels.length := by
  unfold Otb.stagger
  split
  · induction List.range heaters generalizing o with
    | nil => rfl
    | cons k ks ih => rw [List.foldl_cons, ih, Otb.modify_length]
  · rfl

end Sys2Proof.Machine
end

section
/-! The settled statements about heater periods, duty writes, stagger settings and conversions (R101 to R105, R163). -/

namespace Sys2Proof.Machine

/-! ### Heater periods (R101, R105) -/

/-- Settles O45: each event acts at its occasion and writes its channel alone. -/
theorem heaterPeriodsRunOn : Obligations.HeaterPeriodsRunOn := by
  unfold Obligations.HeaterPeriodsRunOn
  refine ⟨fun s i c hr hi hc mode active inside => ?_,
    fun s i c hr hi hc mode ended => ⟨fun stays => ?_, fun o moves => ?_⟩⟩
  · rw [exec_pwmCompareA, execPwmCompareA,
      s.heaterEvent_eq i c _ _ _ hr hi hc (c.pwmCompareAAt_active mode active inside)]
    rfl
  · rw [exec_pwmPeriodEnd, execPwmPeriodEnd,
      s.heaterEvent_eq i c _ _ _ hr hi hc (c.pwmPeriodEndAt_over mode ended), Channel.nextPeriod,
      c.lengthening_none stays, stays]
    rfl
  · rw [exec_pwmPeriodEnd, execPwmPeriodEnd,
      s.heaterEvent_eq i c _ _ _ hr hi hc (c.pwmPeriodEndAt_over mode ended), Channel.nextPeriod,
      c.lengthening_some o moves, moves]
    rfl

/-! ### Duty writes, stagger settings and conversions (R101 to R104, R163) -/

/-- A channel that leaves OFF counts on from the bank phase less its offset (R96, R101). -/
theorem Channel.writeDuty_off_counterAt (c : Channel) (now : Time) (duty : Nat) (mode : c.mode = .off) :
    (c.writeDuty now duty).counterAt now = (now / 1000 % 2000 + (2000 - c.offset % 2000)) % 2000 := by
  have started : (now - now / 1000 * 1000) / 1000 = 0 := by
    simp only [Time] at *
    omega
  rw [c.writeDuty_off now duty mode]
  simp only [Channel.counterAt, started, Nat.add_zero]

theorem Otb.stagger_channel?_present (o : Otb) (heaters p n k : Nat) (c : Channel) (h : 1 ≤ p ∧ p ≤ n ∧ n ≤ 32)
    (hk : k < heaters) (hc : o.channel? (8 + k) = some c) :
    (o.stagger heaters p n).channel? (8 + k) = some (c.setOffset (((p - 1) * 2000 / n + k * 500) % 2000)) := by
  rw [o.stagger_channel? heaters p n _ h, if_pos ⟨by omega, by omega⟩, hc, Nat.add_sub_cancel_left]
  rfl

/-- A stagger setting reaches no channel but the present heater channels. -/
theorem Otb.stagger_channel?_other (o : Otb) (heaters p n i : Nat) (hi : i < 8 ∨ 8 + heaters ≤ i) :
    (o.stagger heaters p n).channel? i = o.channel? i := by
  by_cases valid : 1 ≤ p ∧ p ≤ n ∧ n ≤ 32
  · rw [o.stagger_channel? heaters p n i valid, if_neg (by omega)]
  · rw [o.stagger_invalid heaters p n valid]

/-- Settles O46: the rules of a duty write, a stagger setting, a stop and a conversion, each on the channel it is for. -/
theorem dutyWritesAndStagger : Obligations.DutyWritesAndStagger := by
  unfold Obligations.DutyWritesAndStagger
  refine ⟨fun c now duty => ⟨c.writeDuty_decrease now duty, c.writeDuty_increase now duty, fun off => ?_⟩,
    fun o heaters p n k c hp hpn hn hk hc => ?_, fun o heaters p n => o.stagger_invalid heaters p n,
    fun o heaters p n i => o.stagger_channel?_other heaters p n i, fun c => ⟨c.stopPwm_pwm, c.stopPwm_off⟩,
    fun s => ⟨rfl, fun i hi => ?_, fun k old target c hold htarget hc => ?_⟩⟩
  · have counter := c.writeDuty_off_counterAt now duty off
    rw [c.writeDuty_off now duty off] at counter ⊢
    exact ⟨rfl, rfl, rfl, rfl, rfl, rfl, counter⟩
  · rw [o.stagger_channel?_present heaters p n k c ⟨hp, hpn, hn⟩ hk hc]
    exact ⟨fun same => congrArg some (c.setOffset_same _ same),
      fun new off => congrArg some (c.setOffset_off _ new off),
      fun new pwm => congrArg some (c.setOffset_pwm _ new pwm)⟩
  · exact s.otb.sendTargets_channel?_before s.now 0 _ _ i hi
  · rw [s.convertDuties_channel? k old target hold htarget, hc, Option.map_some]
    refine ⟨?_, ?_, fun new positive => congrArg some (c.takeTarget_write _ _ _ new (Nat.ne_of_gt positive))⟩
    · rintro rfl
      rw [c.takeTarget_same]
    · rintro new rfl
      rw [c.takeTarget_zero _ _ new]

end Sys2Proof.Machine
end

section
/-! The settled statement about the matches of a leaf's run (R98, R99, R114, R116, R118, R121). -/

namespace Sys2Proof.Machine

/-! ### A leaf record and the order to its channel -/

/-- A passage of a present leaf: its record and its channel are written, and nothing is counted. -/
theorem State.putLeaf_settled (s : State) (l l' : Leaf) (o : ChannelOrder) (h : s.leaf? l'.index = some l) :
    (s.putLeaf l' o).settleLeaves.port.counters = s.port.counters
      ∧ (s.putLeaf l' o).settleLeaves.leaf? l'.index = some l'
      ∧ (s.putLeaf l' o).settleLeaves.otb = s.otb.order s.now l'.index o := by
  refine ⟨?_, ?_, ?_⟩
  · rw [State.settleLeaves_portCounters, State.putLeaf_port]
  · rw [State.settleLeaves_leaf?, s.putLeaf_leaf? l l' o _ h, if_pos rfl]
  · rw [State.settleLeaves_otb, State.putLeaf_otb]

/-- A FAULT entry stops the leaf's channel (R121 step 4). -/
theorem State.faultLeaf_otb (s : State) (l : Leaf) (r : FaultReason) :
    (s.faultLeaf l r).otb = s.otb.modify l.index Channel.stopRun := by
  unfold State.faultLeaf
  rw [State.settleLeaves_otb, State.post_otb, State.count_otb, State.putLeaf_otb]
  rfl

/-- What a FAULT entry does to the leaf, its channel and the port (R121). -/
theorem State.faultLeaf_faults (s : State) (l l' : Leaf) (r : FaultReason) (c : Channel) (h : s.leaf? l'.index = some l)
    (hc : s.otb.channel? l'.index = some c) (room : s.port.notices.length < 15) :
    (s.faultLeaf l' r).port.counters = s.port.counters.set 12 (s.port.counter 12 + 1)
      ∧ .leafFault l'.index r ∈ (s.faultLeaf l' r).port.notices
      ∧ (s.faultLeaf l' r).leaf? l'.index = some (l'.enterFault s.now r)
      ∧ (s.faultLeaf l' r).otb.channel? l'.index = some c.stopRun := by
  refine ⟨s.faultLeaf_portCounters l' r, s.faultLeaf_notice l' r (Nat.add_lt_add_right room 1), ?_, ?_⟩
  · rw [s.faultLeaf_leaf? l l' r _ h, if_pos rfl]
  · rw [s.faultLeaf_otb, s.otb.modify_channel?_same _ _ c hc]

theorem Channel.stopRun_running (c : Channel) (mode : c.mode = .sequence) :
    c.stopRun = { c with mode := .off, base := 0, output := false } := by
  rw [Channel.stopRun, mode]

theorem Channel.stopRun_off (c : Channel) (mode : c.mode = .off) : c.stopRun = c := by
  rw [Channel.stopRun, mode]

/-! ### The drive and the obstruction that stands (R114, R116) -/

/-- The record of a leaf that begins to drive at a moment. -/
def Leaf.drives (l : Leaf) (now : Time) : Leaf :=
  { l with state := .closingDrive, watch := if l.cl then some now else none }

theorem State.enterDrive_clear (s : State) (l : Leaf) (clear : l.ob = false) :
    s.enterDrive l = (s.putLeaf (l.drives s.now) .keep).settleLeaves :=
  if_neg (by simp [clear])

theorem State.enterDrive_obstructed (s : State) (l : Leaf) (ob : l.ob = true) :
    s.enterDrive l = s.obstructLeaf (l.drives s.now) :=
  if_pos ob

/-- An obstruction below the third reopens the leaf and starts its run again. -/
theorem State.obstructLeaf_reopens (s : State) (l : Leaf) (few : l.obstructions + 1 < 3) :
    s.obstructLeaf l =
      (s.putLeaf { l with state := .reopen, watch := none, obstructions := l.obstructions + 1 }
        (.start 2000 10000)).settleLeaves :=
  if_pos few

theorem State.obstructLeaf_faults (s : State) (l : Leaf) (many : 3 ≤ l.obstructions + 1) :
    s.obstructLeaf l = s.faultLeaf { l with watch := none, obstructions := l.obstructions + 1 } .obstructed :=
  if_neg (Nat.not_lt.mpr many)

/-- A leaf that begins to drive, or is obstructed, leaves the CC, the HSU and the receivers. -/
theorem State.enterDrive_frame (s : State) (l : Leaf) :
    (s.enterDrive l).now = s.now ∧ (s.enterDrive l).cc = s.cc ∧ (s.enterDrive l).hsu = s.hsu
      ∧ (s.enterDrive l).rxp = s.rxp ∧ (s.enterDrive l).lhu = s.lhu ∧ (s.enterDrive l).endA = s.endA
      ∧ (s.enterDrive l).endB = s.endB := by
  unfold State.enterDrive State.obstructLeaf
  dsimp only
  split
  · split <;> simp
  · simp

/-! ### The matches (R99) -/

theorem Channel.aMatchAt_running (c : Channel) (mode : c.mode = .sequence) (before : c.compareA < c.compareB)
    (waiting : c.output = false) : c.aMatchAt = some (c.reaches c.compareA) :=
  if_pos ⟨mode, before, waiting⟩

theorem Channel.bMatchAt_running (c : Channel) (mode : c.mode = .sequence)
    (driven : c.compareA < c.compareB → c.output = true) : c.bMatchAt = some (c.reaches c.compareB) :=
  if_pos ⟨mode, driven⟩

theorem State.leafChannelOccasion_eq (s : State) (i : Nat) (c : Channel) (at_ : Channel → Option Time) (hi : i < 8)
    (hc : s.otb.channel? i = some c) : s.leafChannelOccasion i at_ = at_ c := by
  rw [State.leafChannelOccasion, if_pos hi, hc, Option.bind_some]

/-- The state in which a match at a moment is handed to the DLC: its channel has changed already. -/
def State.matched (s : State) (i : Nat) (t : Time) (f : Channel → Channel) : State :=
  (s.advanceTo t).setOtb (s.otb.modify i f)

theorem State.matched_leaf? (s : State) (i : Nat) (t : Time) (f : Channel → Channel) (j : Nat) :
    (s.matched i t f).leaf? j = s.leaf? j := rfl

theorem State.matched_channel? (s : State) (i : Nat) (t : Time) (f : Channel → Channel) (c : Channel)
    (hc : s.otb.channel? i = some c) : (s.matched i t f).otb.channel? i = some (f c) :=
  s.otb.modify_channel?_same i f c hc

/-- The state in which a run's A-match is handed to the DLC. -/
def State.aMatched (s : State) (i : Nat) (c : Channel) : State :=
  s.matched i (c.reaches c.compareA) fun c => { c with output := true }

theorem exec_aMatch_eq (s : State) (i : Nat) (c : Channel) (l : Leaf) (hr : s.inReset = false) (hi : i < 8)
    (hc : s.otb.channel? i = some c) (hl : s.leaf? i = some l) (mode : c.mode = .sequence)
    (before : c.compareA < c.compareB) (waiting : c.output = false)
    (state : l.state = .closingWarn ∨ l.state = .reopen) :
    exec (.aMatch i) s = .next ((s.aMatched i c).enterDrive l) := by
  rw [exec_aMatch, execAMatch, s.leafChannelOccasion_eq i c _ hi hc, c.aMatchAt_running mode before waiting,
    State.onOccasion_some _ _ _ hr]
  refine congrArg Host.Outcome.next ?_
  change (s.aMatched i c).takeAMatch i = _
  rw [State.takeAMatch, State.aMatched, State.matched_leaf?, hl]
  obtain warn | reopen := state
  · simp only [warn]
  · simp only [reopen]

theorem exec_bMatch_eq (s : State) (i : Nat) (c : Channel) (l : Leaf) (hr : s.inReset = false) (hi : i < 8)
    (hc : s.otb.channel? i = some c) (hl : s.leaf? i = some l) (mode : c.mode = .sequence)
    (driven : c.compareA < c.compareB → c.output = true) (state : l.state = .closingDrive) :
    exec (.bMatch i) s
      = .next ((s.matched i (c.reaches c.compareB) Channel.stopRun).faultLeaf l .lockTimeout) := by
  rw [exec_bMatch, execBMatch, s.leafChannelOccasion_eq i c _ hi hc, c.bMatchAt_running mode driven,
    State.onOccasion_some _ _ _ hr]
  refine congrArg Host.Outcome.next ?_
  change (s.matched i (c.reaches c.compareB) Channel.stopRun).takeBMatch i = _
  rw [State.takeBMatch, State.matched_leaf?, hl]
  simp only [state]

/-! ### The start of a run (R98, R99) -/

/-- A running channel that starts again after an obstruction (R116). -/
theorem Channel.startRun_reopen (c : Channel) (now : Time) (mode : c.mode = .sequence) :
    c.startRun now 2000 10000
      = { c with base := 0, since := now, compareA := 2000, compareB := 10000, output := false } := by
  rw [Channel.startRun, mode]
  rfl

theorem matchesAtStart_eq_true_iff (a b : Nat) : matchesAtStart a b = true ↔ a = 0 ∧ a < b :=
  decide_eq_true_iff

theorem Channel.startRun_aMatchAt (c : Channel) (now : Time) (a b : Nat) (ha : 0 < a) (hab : a < b) :
    (c.startRun now a b).aMatchAt = some (now + a * 1000) := by
  refine if_pos ⟨rfl, hab, ?_⟩
  have later : ¬(a = 0 ∧ a < b) := fun start => Nat.ne_of_gt ha start.1
  exact decide_eq_false later

/-- A run with A = 0, or A from B on, waits for no A-match. -/
theorem Channel.startRun_aMatchAt_none (c : Channel) (now : Time) (a b : Nat) (h : a = 0 ∨ b ≤ a) :
    (c.startRun now a b).aMatchAt = none := by
  refine if_neg fun ⟨_, (hab : a < b), (waiting : matchesAtStart a b = false)⟩ => ?_
  have start : a = 0 := h.resolve_right (Nat.not_le.mpr hab)
  rw [(matchesAtStart_eq_true_iff a b).mpr ⟨start, hab⟩] at waiting
  nomatch waiting

theorem Channel.startRun_bMatchAt (c : Channel) (now : Time) (a b : Nat) (h : a = 0 ∨ b ≤ a) :
    (c.startRun now a b).bMatchAt = some (now + b * 1000) := by
  refine if_pos ⟨rfl, fun (hab : a < b) => ?_⟩
  exact (matchesAtStart_eq_true_iff a b).mpr ⟨h.resolve_right (Nat.not_le.mpr hab), hab⟩

/-- A start hands its A-match exactly when the run has it there. -/
theorem State.takeStartMatches_start (s : State) (i a b : Nat) :
    s.takeStartMatches [(i, .start a b)] = if a = 0 ∧ a < b then s.takeAMatch i else s :=
  ite_congr (propext (matchesAtStart_eq_true_iff a b)) (fun _ => rfl) (fun _ => rfl)

/-! ### The statement -/

/-- An A-match with the obstruction inactive: the drive begins. -/
theorem State.enterDrive_clear_result (s : State) (i : Nat) (c : Channel) (l : Leaf) (hl : s.leaf? i = some l)
    (hc : s.otb.channel? i = some c) (clear : l.ob = false) :
    (s.enterDrive l).port.counters = s.port.counters ∧ (s.enterDrive l).leaf? i = some (l.drives s.now)
      ∧ (s.enterDrive l).otb.channel? i = some c := by
  obtain rfl := s.leaf?_index i l hl
  obtain ⟨counters, leaf, otb⟩ := s.putLeaf_settled l (l.drives s.now) .keep hl
  rw [s.enterDrive_clear l clear]
  exact ⟨counters, leaf, otb ▸ hc⟩

/-- An A-match with the obstruction active below the third: the leaf reopens and its run starts again. -/
theorem State.enterDrive_reopens_result (s : State) (i : Nat) (c : Channel) (l : Leaf) (hl : s.leaf? i = some l)
    (hc : s.otb.channel? i = some c) (ob : l.ob = true) (few : l.obstructions + 1 < 3) :
    (s.enterDrive l).port.counters = s.port.counters
      ∧ (s.enterDrive l).leaf? i
          = some { l with state := .reopen, watch := none, obstructions := l.obstructions + 1 }
      ∧ (s.enterDrive l).otb.channel? i = some (c.startRun s.now 2000 10000) := by
  obtain rfl := s.leaf?_index i l hl
  obtain ⟨counters, leaf, otb⟩ := s.putLeaf_settled l
    { l with state := .reopen, watch := none, obstructions := l.obstructions + 1 } (.start 2000 10000) hl
  rw [s.enterDrive_obstructed l ob, s.obstructLeaf_reopens (l.drives s.now) few]
  refine ⟨counters, leaf, ?_⟩
  exact otb ▸ s.otb.modify_channel?_same l.index (fun c => c.startRun s.now 2000 10000) c hc

/-- An A-match with the third obstruction: the leaf is in FAULT. -/
theorem State.enterDrive_faults_result (s : State) (i : Nat) (c : Channel) (l : Leaf) (hl : s.leaf? i = some l)
    (hc : s.otb.channel? i = some c) (room : s.port.notices.length < 15) (ob : l.ob = true)
    (many : 3 ≤ l.obstructions + 1) :
    (s.enterDrive l).port.counters = s.port.counters.set 12 (s.port.counter 12 + 1)
      ∧ .leafFault i .obstructed ∈ (s.enterDrive l).port.notices
      ∧ (s.enterDrive l).leaf? i
          = some (Leaf.enterFault { l with obstructions := l.obstructions + 1 } s.now .obstructed)
      ∧ (s.enterDrive l).otb.channel? i = some c.stopRun := by
  obtain rfl := s.leaf?_index i l hl
  rw [s.enterDrive_obstructed l ob, s.obstructLeaf_faults (l.drives s.now) many]
  exact s.faultLeaf_faults l _ .obstructed c hl hc room

/-- Settles O44: the branches of an A-match by the obstruction input and count, a B-match, and a run's start. -/
theorem leafRunMatches : Obligations.LeafRunMatches := by
  unfold Obligations.LeafRunMatches
  refine ⟨fun s i c l hr hi hc hl mode _ room => ⟨fun before waiting state => ?_, fun driven state => ?_⟩,
    fun c now a b => ⟨rfl, c.startRun_aMatchAt now a b, c.startRun_aMatchAt_none now a b, c.startRun_bMatchAt now a b⟩,
    State.takeStartMatches_start⟩
  · have channel := s.matched_channel? i (c.reaches c.compareA) (fun c => { c with output := true }) c hc
    obtain ⟨now, frame⟩ := (s.aMatched i c).enterDrive_frame l
    obtain ⟨cc, hsu, rxp, lhu, endA, endB⟩ := frame
    refine ⟨_, exec_aMatch_eq s i c l hr hi hc hl mode before waiting state, now, cc, hsu, rxp, lhu, endA, endB,
      fun clear => ?_, fun ob few => ?_, fun ob many => ?_⟩
    · rw [now]
      exact (s.aMatched i c).enterDrive_clear_result i _ l hl channel clear
    · rw [now]
      obtain ⟨counters, leaf, restarted⟩ := (s.aMatched i c).enterDrive_reopens_result i _ l hl channel ob few
      exact ⟨counters, leaf, restarted.trans (congrArg some (Channel.startRun_reopen _ _ mode))⟩
    · rw [now]
      obtain ⟨counters, notice, leaf, stopped⟩ := (s.aMatched i c).enterDrive_faults_result i _ l hl channel room ob many
      exact ⟨counters, notice, leaf, stopped.trans (congrArg some (Channel.stopRun_running _ mode))⟩
  · have off := s.matched_channel? i (c.reaches c.compareB) Channel.stopRun c hc
    have index := s.leaf?_index i l hl
    subst index
    obtain ⟨counters, notice, leaf, stopped⟩ :=
      State.faultLeaf_faults (s.matched l.index (c.reaches c.compareB) Channel.stopRun) l l .lockTimeout _ hl off room
    rw [c.stopRun_running mode, Channel.stopRun_off _ rfl] at stopped
    refine ⟨_, exec_bMatch_eq s _ c l hr hi hc hl mode driven state, ?_⟩
    rw [State.faultLeaf_now]
    exact ⟨rfl, State.faultLeaf_cc _ _ _, State.faultLeaf_hsu _ _ _, State.faultLeaf_rxp _ _ _,
      State.faultLeaf_lhu _ _ _, State.faultLeaf_endA _ _ _, State.faultLeaf_endB _ _ _, counters, notice, leaf, stopped⟩

end Sys2Proof.Machine
end

section
/-! The settled statement about the output pins (R97, R109, R141, R146, R178). -/

namespace Sys2Proof.Machine

/-! ### REL, DRV and WARN (R109) -/

theorem State.relActive_present (s : State) (i : Nat) (l : Leaf) (hl : s.leaf? i = some l) :
    s.relActive i = true ↔ l.state = .released := by
  rw [State.relActive, hl, Option.any_some, decide_eq_true_iff]

theorem State.relActive_absent (s : State) (i : Nat) (h : s.leaf? i = none) : s.relActive i = false := by
  rw [State.relActive, h]
  rfl

theorem State.drvActive_absent (s : State) (i : Nat) (h : s.leaf? i = none) : s.drvActive i = false := by
  rw [State.drvActive, h]
  rfl

/-- A present leaf of a sound state has its channel, which agrees with it (R95, R119). -/
theorem State.leavesSound.agrees {s : State} (h : s.leavesSound) (i : Nat) (l : Leaf) (hl : s.leaf? i = some l) :
    ∃ c, s.otb.channel? i = some c ∧ leafAgrees l c := by
  obtain ⟨bank, -, bound, agree⟩ := h
  have present : l ∈ s.dlc.leaves := List.mem_of_find?_eq_some hl
  have index := s.leaf?_index i l hl
  have hi : i < 8 := index ▸ bound l present
  obtain ⟨c, hc⟩ := s.otb.channel?_below i (by rw [bank]; exact Nat.lt_trans hi (by decide))
  have agrees := agree i hi c hc
  rw [hl] at agrees
  exact ⟨c, hc, agrees⟩

/-- DRV in a sound state: the output of the leaf's channel is active in CLOSING_DRIVE. -/
theorem State.leavesSound.drvActive {s : State} (h : s.leavesSound) (i : Nat) (l : Leaf) (hl : s.leaf? i = some l) :
    s.drvActive i = true ↔ l.state = .closingDrive := by
  obtain ⟨c, hc, -, -, output, -⟩ := h.agrees i l hl
  rw [State.drvActive, Otb.outputOf, hl, hc, Option.any_some, Option.any_some, Bool.and_eq_true, decide_eq_true_iff,
    output, and_self]

theorem State.warnActive_iff (s : State) (side : Side) :
    s.warnActive side = true ↔ ∃ l ∈ s.dlc.leaves, leafSide l.index = side ∧ l.state = .closingWarn := by
  simp only [State.warnActive, List.any_eq_true, Bool.and_eq_true, decide_eq_true_iff]

/-! ### The level of a pin (R97, R141, R178) -/

theorem State.polarised_activeHigh (s : State) (active : Bool) (hr : s.inReset = false)
    (pol : s.straps.outPol = .activeHigh) : s.polarised active = if active then .high else .low := by
  cases active <;> simp [State.polarised, hr, pol]

theorem State.polarised_activeLow (s : State) (active : Bool) (hr : s.inReset = false)
    (pol : s.straps.outPol = .activeLow) : s.polarised active = if active then .low else .high := by
  cases active <;> simp [State.polarised, hr, pol]

theorem State.dsecPin_running (s : State) (hr : s.inReset = false) :
    s.dsecPin = if s.dcu.secureOn then .high else .low := by
  rw [State.dsecPin, hr]
  rfl

theorem State.noticeLine_waiting (s : State) (hr : s.inReset = false) (h : s.port.notices ≠ []) :
    s.noticeLine = .low := by
  simp [State.noticeLine, hr, h]

theorem State.noticeLine_empty (s : State) (hr : s.inReset = false) (h : s.port.notices = []) :
    s.noticeLine = .high := by
  simp [State.noticeLine, hr, h]

/-- Settles O50: the logical levels by the leaf states and channels, and each pin's level by OUT_POL. -/
theorem outputPinsFollowState : Obligations.OutputPinsFollowState := by
  unfold Obligations.OutputPinsFollowState
  refine fun s => ⟨fun hr => ⟨fun i l hl => ⟨s.relActive_present i l hl, fun sound => sound.drvActive i l hl⟩,
      fun i absent => ⟨s.relActive_absent i absent, s.drvActive_absent i absent⟩, s.warnActive_iff,
      fun i side k pol => ?_, fun i side k pol => ?_, s.dsecPin_running hr, s.noticeLine_waiting hr,
      s.noticeLine_empty hr⟩, fun hr => ?_⟩
  · have pin := fun active => s.polarised_activeHigh active hr pol
    exact ⟨pin _, pin _, pin _, pin _⟩
  · have pin := fun active => s.polarised_activeLow active hr pol
    exact ⟨pin _, pin _, pin _, pin _⟩
  · have pin := fun active => s.polarised_inReset active hr
    exact ⟨fun i => ⟨pin _, pin _⟩, fun side => pin _, fun k => pin _, if_pos hr, if_pos hr⟩

end Sys2Proof.Machine
end

section
/-! SUPPORT. What the heating invariant reads of a state (the heat view), and the operations that leave it: all but
the conversion of a grant, a heater period's end, and external reset (R95, R101, R102, R147, R162, R163). -/

namespace Sys2Proof.Machine

/-! ### The heat view -/

/-- What a channel holds of a duty (R102). -/
def Channel.load (c : Channel) : ChannelMode × Nat × Option Nat := (c.mode, c.compareA, c.pendingA)

/-- What heater channel k holds of its duty, if the bank has it. -/
def Otb.load? (o : Otb) (k : Nat) : Option (ChannelMode × Nat × Option Nat) := (o.channel? (8 + k)).map Channel.load

/-- All that the heating invariant reads of a state. -/
structure HeatView where
  straps : Straps
  bank : Nat
  loads : Nat → Option (ChannelMode × Nat × Option Nat)
  leaves : List Nat
  demands : List Demand
  applied : Grant
  targets : List Nat

/-- What a state shows of the leaves that the invariant binds to their channels. -/
def Dlc.indices (d : Dlc) : List Nat := d.leaves.map Leaf.index

def State.heatView (s : State) : HeatView where
  straps := s.straps
  bank := s.otb.channels.length
  loads := s.otb.load?
  leaves := s.dlc.indices
  demands := s.hsu.demands
  applied := s.hsu.applied
  targets := s.hsu.targets

/-- A change of the bank that leaves its length and the heater channels' loads. -/
theorem State.setOtb_heatView_of (s : State) (o : Otb) (bank : o.channels.length = s.otb.channels.length)
    (loads : ∀ k, o.load? k = s.otb.load? k) : (s.setOtb o).heatView = s.heatView := by
  simp only [State.heatView, State.setOtb_otb, bank, funext loads]
  rfl

theorem State.setDlc_heatView_of (s : State) (d : Dlc) (same : d.indices = s.dlc.indices) :
    (s.setDlc d).heatView = s.heatView := by
  simp only [State.heatView, State.setDlc_dlc, same]
  rfl

theorem State.setHsu_heatView_of (s : State) (h : Hsu) (demands : h.demands = s.hsu.demands)
    (applied : h.applied = s.hsu.applied) (targets : h.targets = s.hsu.targets) :
    (s.setHsu h).heatView = s.heatView := by
  simp only [State.heatView, State.setHsu_hsu, demands, applied, targets]
  rfl

/-- A change of one channel that leaves what it holds of its duty. -/
theorem Otb.modify_load? (o : Otb) (i : Nat) (f : Channel → Channel) (same : ∀ c, (f c).load = c.load) (k : Nat) :
    (o.modify i f).load? k = o.load? k := by
  rw [Otb.load?, o.modify_channel?]
  split
  · rw [Option.map_map, show Channel.load ∘ f = Channel.load from funext same]
    rfl
  · rfl

/-- A change of a leaf channel is none of a heater channel. -/
theorem Otb.modify_load?_leaf (o : Otb) (i : Nat) (f : Channel → Channel) (leaf : i < 8) (k : Nat) :
    (o.modify i f).load? k = o.load? k := by
  rw [Otb.load?, o.modify_channel?_other i _ f (by omega)]
  rfl

/-! ### The block updates -/

section Quiet

variable (s : State)

@[simp] theorem State.advanceTo_heatView (t : Time) : (s.advanceTo t).heatView = s.heatView := rfl
@[simp] theorem State.setPins_heatView (v : Pins) : (s.setPins v).heatView = s.heatView := rfl
@[simp] theorem State.setCc_heatView (v : Cc) : (s.setCc v).heatView = s.heatView := rfl
@[simp] theorem State.setLau_heatView (v : Lau) : (s.setLau v).heatView = s.heatView := rfl
@[simp] theorem State.setRxp_heatView (v : Rxp) : (s.setRxp v).heatView = s.heatView := rfl
@[simp] theorem State.setLhu_heatView (v : Lhu) : (s.setLhu v).heatView = s.heatView := rfl
@[simp] theorem State.setDcu_heatView (v : Dcu) : (s.setDcu v).heatView = s.heatView := rfl
@[simp] theorem State.setPort_heatView (v : Port) : (s.setPort v).heatView = s.heatView := rfl
@[simp] theorem State.setEnd_heatView (e : CoachEnd) (v : EndLink) : (s.setEnd e v).heatView = s.heatView := by
  cases e <;> rfl
@[simp] theorem State.post_heatView (n : Notice) : (s.post n).heatView = s.heatView := rfl
@[simp] theorem State.count_heatView (c : Counter) : (s.count c).heatView = s.heatView := rfl

/-! ### Submissions and what follows a change of the doors -/

@[simp] theorem State.submitHold_heatView (t : Nat) : (s.submitHold t).heatView = s.heatView := rfl
@[simp] theorem State.submitRoll_heatView : s.submitRoll.heatView = s.heatView := rfl
@[simp] theorem State.submitTally_heatView (t : Tally) : (s.submitTally t).heatView = s.heatView := rfl
@[simp] theorem State.submitReform_heatView (r : ReformReason) : (s.submitReform r).heatView = s.heatView := rfl
@[simp] theorem State.submitDoorstat_heatView : s.submitDoorstat.heatView = s.heatView := rfl
@[simp] theorem State.submitHeatbid_heatView : s.submitHeatbid.heatView = s.heatView := rfl

@[simp] theorem State.evalDoorsSecure_heatView : s.evalDoorsSecure.heatView = s.heatView := by
  unfold State.evalDoorsSecure
  split <;> rfl

@[simp] theorem State.settleLeaves_heatView : s.settleLeaves.heatView = s.heatView := by
  unfold State.settleLeaves
  dsimp only
  split
  · rfl
  · rw [State.evalDoorsSecure_heatView]
    split <;> rfl

@[simp] theorem State.takeDoorstat_heatView (f : Frame) : (s.takeDoorstat f).heatView = s.heatView := by
  unfold State.takeDoorstat
  split
  · split <;> simp
  · rfl

/-! ### Stagger (R104) -/

theorem Channel.setOffset_load (c : Channel) (o : Nat) : (c.setOffset o).load = c.load := by
  unfold Channel.setOffset
  split
  · rfl
  · split <;> rfl

/-- A stagger setting moves periods, not duties. -/
@[simp] theorem State.stagger_heatView (p n : Nat) : (s.stagger p n).heatView = s.heatView := by
  refine s.setOtb_heatView_of _ (s.otb.stagger_length _ p n) fun k => ?_
  by_cases valid : 1 ≤ p ∧ p ≤ n ∧ n ≤ 32
  · rw [Otb.load?, s.otb.stagger_channel? _ p n _ valid]
    split
    · rw [Option.map_map, show Channel.load ∘ (fun c : Channel => c.setOffset _) = Channel.load from
        funext fun c => c.setOffset_load _]
      rfl
    · rfl
  · rw [s.otb.stagger_invalid _ p n valid]

/-! ### Bids and computations (R150 to R158, R165, R166) -/

@[simp] theorem State.triggerAllocation_heatView : s.triggerAllocation.heatView = s.heatView := by
  unfold State.triggerAllocation
  split
  · split <;> rfl
  · rfl

@[simp] theorem State.storeBid_heatView (p : Nat) (i : AllocInput) : (s.storeBid p i).heatView = s.heatView := by
  unfold State.storeBid
  dsimp only
  split
  · split <;> rfl
  · rw [State.triggerAllocation_heatView]
    split <;> rfl

@[simp] theorem State.takeHeatbid_heatView (f : Frame) : (s.takeHeatbid f).heatView = s.heatView := by
  unfold State.takeHeatbid
  split
  · split
    · split <;> simp
    · rfl
  · rfl

@[simp] theorem State.hsuFormedEntry_heatView : s.hsuFormedEntry.heatView = s.heatView := by
  unfold State.hsuFormedEntry
  rw [State.triggerAllocation_heatView, State.submitHeatbid_heatView, State.stagger_heatView]
  rfl

@[simp] theorem State.dcuFormedEntry_heatView : s.dcuFormedEntry.heatView = s.heatView := by
  simp [State.dcuFormedEntry]

@[simp] theorem State.tellLeft_heatView (w : Bool) : (s.tellLeft w).heatView = s.heatView := by
  have left : s.dcuLeaveFormed.hsuLeaveFormed.heatView = s.dcuLeaveFormed.heatView := rfl
  unfold State.tellLeft
  split
  · rw [left, State.dcuLeaveFormed, State.evalDoorsSecure_heatView, State.setDcu_heatView]
  · rfl

/-! ### Formation (R16 to R38, R173) -/

@[simp] theorem State.testClosure_heatView : s.testClosure.heatView = s.heatView := by
  unfold State.testClosure
  split <;> rfl

@[simp] theorem State.leaveForGather_heatView (r : LeftReason) : (s.leaveForGather r).heatView = s.heatView := by
  unfold State.leaveForGather
  split <;> rfl

@[simp] theorem State.startFormation_heatView (r : ReformReason) : (s.startFormation r).heatView = s.heatView := by
  simp [State.startFormation, State.takeNumber, State.enterGather, State.insertOwnRecord]

@[simp] theorem State.adopt_heatView (n : FormationNumber) (r : LeftReason) : (s.adopt n r).heatView = s.heatView := by
  simp [State.adopt, State.takeNumber, State.enterGather, State.insertOwnRecord]

@[simp] theorem State.sight_heatView (f : Frame) : (s.sight f).heatView = s.heatView := by
  unfold State.sight State.sightEqual State.hearMember
  dsimp only
  split
  · simp
  · split
    · split
      · split
        · split <;> rfl
        · split <;> simp
      · rfl
    · rfl

@[simp] theorem State.followCab_heatView : s.followCab.heatView = s.heatView := by
  unfold State.followCab
  dsimp only
  split <;> rfl

@[simp] theorem State.enterFormed_heatView (o : CandidateOrder) : (s.enterFormed o).heatView = s.heatView := by
  simp [State.enterFormed]

@[simp] theorem State.formIfAgreed_heatView (o : CandidateOrder) : (s.formIfAgreed o).heatView = s.heatView := by
  unfold State.formIfAgreed
  split <;> simp

@[simp] theorem State.soloCab_heatView : s.soloCab.heatView = s.heatView := by
  unfold State.soloCab
  split <;> rfl

@[simp] theorem State.writeSoloTable_heatView : s.writeSoloTable.heatView = s.heatView := rfl

@[simp] theorem State.enterSolo_heatView : s.enterSolo.heatView = s.heatView := by
  simp [State.enterSolo]

@[simp] theorem State.failFormation_heatView (r : ReformReason) : (s.failFormation r).heatView = s.heatView := by
  unfold State.failFormation
  dsimp only
  split <;> simp

@[simp] theorem State.enterTally_heatView (o : CandidateOrder) : (s.enterTally o).heatView = s.heatView := by
  unfold State.enterTally
  dsimp only
  split <;> simp

@[simp] theorem State.endOrdering_heatView : s.endOrdering.heatView = s.heatView := by
  unfold State.endOrdering
  split <;> simp

@[simp] theorem State.takeTally_heatView (f : Frame) : (s.takeTally f).heatView = s.heatView := by
  unfold State.takeTally State.compareTally
  split
  case h_1 => rfl
  case h_2 =>
    split
    case h_2 =>
      split
      · split
        · split <;> simp
        · rfl
      · rfl
    all_goals rfl

@[simp] theorem State.gatherRoll_heatView (r : RollRecord) : (s.gatherRoll r).heatView = s.heatView := by
  unfold State.gatherRoll
  dsimp only
  split
  · split <;> simp
  · split <;> simp

@[simp] theorem State.takeRoll_heatView (f : Frame) : (s.takeRoll f).heatView = s.heatView := by
  unfold State.takeRoll State.compareRoll
  split
  case h_1 => rfl
  case h_2 =>
    split
    case h_1 => simp
    case h_2 | h_3 =>
      split
      · split <;> simp
      · rfl
    all_goals rfl

@[simp] theorem State.renewOwnRecord_heatView : s.renewOwnRecord.heatView = s.heatView := by
  unfold State.renewOwnRecord
  split <;> simp [State.insertOwnRecord]

@[simp] theorem State.cabRequest_heatView (code : Byte) : (s.cabRequest code).1.heatView = s.heatView := by
  unfold State.cabRequest State.acceptCab
  split
  · rfl
  · split
    · rfl
    · split
      · rfl
      · split
        · rfl
        · dsimp only
          split <;> simp

@[simp] theorem State.reportAdjacency_heatView : s.reportAdjacency.heatView = s.heatView := by
  unfold State.reportAdjacency
  split <;> simp

/-! ### End links (R1, R6 to R10) -/

@[simp] theorem State.arriveBeacon_heatView (e : CoachEnd) (bytes : List Byte) :
    (s.arriveBeacon e bytes).heatView = s.heatView := by
  unfold State.arriveBeacon State.takeBeacon
  split
  · dsimp only
    split <;> simp
  · rfl

@[simp] theorem State.endFaulty_heatView (e : CoachEnd) : (s.endFaulty e).heatView = s.heatView := by
  simp [State.endFaulty]

@[simp] theorem State.receiveChar_heatView (e : CoachEnd) (c : LineChar) :
    (s.receiveChar e c).heatView = s.heatView := by
  have ended : (s.endFaultyBy e c.start).heatView = s.heatView := by
    unfold State.endFaultyBy
    split
    · split <;> simp
    · rfl
  unfold State.receiveChar
  split
  · rfl
  · dsimp only
    split <;> simp [ended]

@[simp] theorem State.receiveChars_heatView (e : CoachEnd) (chars : List LineChar) :
    (s.receiveChars e chars).heatView = s.heatView := by
  unfold State.receiveChars
  induction chars generalizing s with
  | nil => rfl
  | cons c cs ih => rw [List.foldl_cons, ih, State.receiveChar_heatView]

/-! ### The receive path (R78 to R93) -/

@[simp] theorem State.noteRise_heatView (before after : Nat) : (s.noteRise before after).heatView = s.heatView := by
  obtain ⟨lhu, lau, h⟩ := s.noteRise_eq before after
  rw [h, State.setLau_heatView, State.setLhu_heatView]

@[simp] theorem State.noteFall_heatView (after : Nat) : (s.noteFall after).heatView = s.heatView := by
  obtain ⟨lhu, lau, h⟩ := s.noteFall_eq after
  rw [h, State.setLau_heatView, State.setLhu_heatView]

@[simp] theorem State.endReception_heatView (r : Reception) : (s.endReception r).heatView = s.heatView := by
  have enqueued (t : State) (f : Frame) : (t.enqueue f).heatView = t.heatView := by
    unfold State.enqueue
    dsimp only
    split <;> simp
  unfold State.endReception State.routeFrame
  split
  · split
    · rfl
    · split
      · rw [State.acceptFrame, enqueued, State.sight_heatView, State.count_heatView]
      · rfl
  · rfl

/-! ### The transmitter (R63 to R75) -/

@[simp] theorem State.giveResult_heatView (f : Frame) (r : TxResult) : (s.giveResult f r).heatView = s.heatView := by
  unfold State.giveResult State.copyStale State.holdSent State.holdLost
  dsimp only
  split
  case h_4 => split <;> rfl
  case h_6 =>
    split
    · rfl
    · split <;> rfl
  case h_7 | h_8 => split <;> rfl
  all_goals rfl

@[simp] theorem State.attempt_heatView (c : CurrentFrame) : (s.attempt c).heatView = s.heatView := by
  unfold State.attempt
  split <;> simp

@[simp] theorem State.takeCandidate_heatView : s.takeCandidate.heatView = s.heatView := by
  unfold State.takeCandidate
  split
  · dsimp only
    split <;> simp
  · rfl

@[simp] theorem State.afterJam_heatView (c : CurrentFrame) : (s.afterJam c).heatView = s.heatView := by
  have givenUp (t : State) (f : Frame) (r : TxResult) : (t.giveUp f r).heatView = t.heatView := by
    obtain ⟨port, posted, -, -⟩ := t.postAbandoned_eq f
    rw [State.giveUp, posted, State.setLau_heatView, State.giveResult_heatView, State.setPort_heatView]
  unfold State.afterJam
  split
  case h_1 => rfl
  case h_2 =>
    dsimp only
    split <;> rfl
  case h_3 =>
    split
    · rw [givenUp, State.count_heatView]
    · split
      · rw [givenUp, State.count_heatView]
      · rfl

@[simp] theorem State.repeatCopy_heatView (seq : Byte) : (s.repeatCopy seq).heatView = s.heatView := by
  unfold State.repeatCopy
  split <;> rfl

end Quiet

/-! ### The leaves and their channels (R95, R107, R111 to R124)

An order to a leaf's channel reaches no heater channel as long as every leaf is bound to a leaf channel. -/

/-- No leaf is bound to a heater channel (R95). -/
def State.leavesBound (s : State) : Prop := ∀ l ∈ s.dlc.leaves, l.index < 8

theorem State.leavesBound_iff (s : State) : s.leavesBound ↔ ∀ i ∈ s.heatView.leaves, i < 8 := by
  rw [State.heatView, Dlc.indices, List.forall_mem_map]
  rfl

theorem State.leavesBound.of_view {s t : State} (h : s.leavesBound) (same : t.heatView = s.heatView) :
    t.leavesBound := by
  rw [State.leavesBound_iff, same]
  exact s.leavesBound_iff.mp h

theorem State.leavesBound.leaf {s : State} (h : s.leavesBound) {i : Nat} {l : Leaf} (found : s.leaf? i = some l) :
    l.index < 8 :=
  h l (List.mem_of_find?_eq_some found)

/-- A record written back stands under the same index. -/
theorem Dlc.put_indices (d : Dlc) (l : Leaf) : (d.put l).indices = d.indices := by
  rw [Dlc.indices, Dlc.put, List.map_map]
  refine List.map_congr_left fun x _ => ?_
  by_cases here : x.index = l.index <;> simp [here]

theorem State.setDlc_put_heatView (s : State) (l : Leaf) : (s.setDlc (s.dlc.put l)).heatView = s.heatView :=
  s.setDlc_heatView_of _ (s.dlc.put_indices l)

/-- An order to a leaf channel leaves the bank's length and the heater channels. -/
theorem Otb.order_heat (o : Otb) (now : Time) (i : Nat) (order : ChannelOrder) (leaf : i < 8) :
    (o.order now i order).channels.length = o.channels.length ∧ ∀ k, (o.order now i order).load? k = o.load? k := by
  cases order with
  | keep => exact ⟨rfl, fun _ => rfl⟩
  | stop => exact ⟨o.modify_length i _, o.modify_load?_leaf i _ leaf⟩
  | start a b => exact ⟨o.modify_length i _, o.modify_load?_leaf i _ leaf⟩

theorem State.putLeaf_heatView (s : State) (l : Leaf) (o : ChannelOrder) (leaf : l.index < 8) :
    (s.putLeaf l o).heatView = s.heatView := by
  obtain ⟨bank, loads⟩ := s.otb.order_heat s.now l.index o leaf
  have put := s.setDlc_put_heatView l
  exact ((s.setDlc (s.dlc.put l)).setOtb_heatView_of _ bank loads).trans put

theorem State.faultLeaf_heatView (s : State) (l : Leaf) (r : FaultReason) (leaf : l.index < 8) :
    (s.faultLeaf l r).heatView = s.heatView := by
  rw [State.faultLeaf, State.settleLeaves_heatView, State.post_heatView, State.count_heatView]
  exact s.putLeaf_heatView _ .stop leaf

theorem State.putLeaf_settled_heatView (s : State) (l : Leaf) (o : ChannelOrder) (leaf : l.index < 8) :
    (s.putLeaf l o).settleLeaves.heatView = s.heatView := by
  rw [State.settleLeaves_heatView, s.putLeaf_heatView l o leaf]

theorem State.obstructLeaf_heatView (s : State) (l : Leaf) (leaf : l.index < 8) :
    (s.obstructLeaf l).heatView = s.heatView := by
  unfold State.obstructLeaf
  dsimp only
  split
  · exact s.putLeaf_settled_heatView _ _ leaf
  · exact s.faultLeaf_heatView _ _ leaf

theorem State.takeAMatch_heatView (s : State) (i : Nat) (bound : s.leavesBound) :
    (s.takeAMatch i).heatView = s.heatView := by
  have drives (l : Leaf) (leaf : l.index < 8) : (s.enterDrive l).heatView = s.heatView := by
    unfold State.enterDrive
    dsimp only
    split
    · exact s.obstructLeaf_heatView _ leaf
    · exact s.putLeaf_settled_heatView _ _ leaf
  unfold State.takeAMatch
  split
  case h_1 l found =>
    split
    · exact drives l (bound.leaf found)
    · exact drives l (bound.leaf found)
    all_goals rfl
  case h_2 => rfl

theorem State.takeBMatch_heatView (s : State) (i : Nat) (bound : s.leavesBound) :
    (s.takeBMatch i).heatView = s.heatView := by
  unfold State.takeBMatch
  split
  case h_1 l found =>
    split
    · exact s.faultLeaf_heatView _ _ (bound.leaf found)
    all_goals rfl
  case h_2 => rfl

theorem State.takeStartMatches_heatView (s : State) (orders : List (Nat × ChannelOrder)) (bound : s.leavesBound) :
    (s.takeStartMatches orders).heatView = s.heatView := by
  unfold State.takeStartMatches
  induction orders generalizing s with
  | nil => rfl
  | cons x xs ih =>
    rw [List.foldl_cons]
    split
    · have matched := s.takeAMatch_heatView x.1 bound
      rw [ih _ (bound.of_view matched), matched]
    · exact ih s bound

theorem Leaf.release_index (l : Leaf) : l.release.1.index = l.index := by
  unfold Leaf.release
  split <;> rfl

theorem Leaf.close_index (l : Leaf) : l.close.1.index = l.index := by
  unfold Leaf.close
  split <;> rfl

/-- The orders of an event to the channels of its leaves. -/
theorem foldl_order_heat (named : Leaf → Bool) (now : Time) (passage : Leaf → Leaf × ChannelOrder) (ls : List Leaf)
    (o : Otb) (bound : ∀ l ∈ ls, l.index < 8) :
    let u := ls.foldl (fun o l => if named l then o.order now l.index (passage l).2 else o) o
    u.channels.length = o.channels.length ∧ ∀ k, u.load? k = o.load? k := by
  induction ls generalizing o with
  | nil => exact ⟨rfl, fun _ => rfl⟩
  | cons l ls ih =>
    obtain ⟨leaf, bound⟩ := List.forall_mem_cons.mp bound
    rw [List.foldl_cons]
    split
    · obtain ⟨bank, loads⟩ := o.order_heat now l.index (passage l).2 leaf
      obtain ⟨banks, rest⟩ := ih (o.order now l.index (passage l).2) bound
      exact ⟨banks.trans bank, fun k => (rest k).trans (loads k)⟩
    · exact ih o bound

theorem State.passLeaves_heatView (s : State) (sides : List Side) (passage : Leaf → Leaf × ChannelOrder)
    (index : ∀ l, (passage l).1.index = l.index) (bound : s.leavesBound) :
    (s.passLeaves sides passage).heatView = s.heatView := by
  obtain ⟨bank, loads⟩ := foldl_order_heat (fun l => sides.contains (leafSide l.index)) s.now passage s.dlc.leaves
    s.otb bound
  unfold State.passLeaves
  refine (State.setOtb_heatView_of _ _ ?bank ?loads).trans (s.setDlc_heatView_of _ ?indices)
  case bank => exact bank
  case loads => exact loads
  case indices =>
    rw [Dlc.indices, List.map_map]
    refine List.map_congr_left fun l _ => ?_
    rw [Function.comp_apply]
    split
    · exact index l
    · rfl

theorem State.onLeaves_heatView (s : State) (sides : List Side) (passage : Leaf → Leaf × ChannelOrder)
    (index : ∀ l, (passage l).1.index = l.index) (bound : s.leavesBound) :
    (s.onLeaves sides passage).heatView = s.heatView := by
  have passed : (s.passLeaves sides passage).settleLeaves.heatView = s.heatView := by
    rw [State.settleLeaves_heatView, s.passLeaves_heatView sides passage index bound]
  rw [State.onLeaves, State.takeStartMatches_heatView _ _ (bound.of_view passed), passed]

theorem State.releaseLeaves_heatView (s : State) (sides : List Side) (n : FormationNumber) (bound : s.leavesBound) :
    (s.releaseLeaves sides n).heatView = s.heatView := by
  unfold State.releaseLeaves
  split
  · exact s.onLeaves_heatView sides _ Leaf.release_index bound
  · rfl

theorem State.closeLeaves_heatView (s : State) (sides : List Side) (bound : s.leavesBound) :
    (s.closeLeaves sides).heatView = s.heatView :=
  s.onLeaves_heatView sides _ Leaf.close_index bound

theorem State.takeObChange_heatView (s : State) (l : Leaf) (leaf : l.index < 8) :
    (s.takeObChange l).heatView = s.heatView := by
  unfold State.takeObChange
  dsimp only
  split
  · exact s.obstructLeaf_heatView _ leaf
  · exact s.setDlc_put_heatView _

theorem State.isolateRequest_heatView (s : State) (leaf onOff : Byte) (bound : s.leavesBound) :
    (s.isolateRequest leaf onOff).1.heatView = s.heatView := by
  unfold State.isolateRequest
  split
  case h_1 | h_2 => rfl
  case h_3 l _ found =>
    have bound := bound.leaf found
    exact s.putLeaf_settled_heatView _ _ bound
  case h_4 l _ found =>
    have bound := bound.leaf found
    dsimp only
    unfold State.endIsolation
    split
    · split
      · exact s.putLeaf_settled_heatView _ _ bound
      · exact s.faultLeaf_heatView _ _ bound
    · rfl

/-! ### Door commands (R128 to R136) -/

theorem State.applyIssue_heatView (s : State) (c : DoorCmd) (bound : s.leavesBound) :
    (s.applyIssue c).heatView = s.heatView := by
  unfold State.applyIssue
  split
  · split
    · exact s.releaseLeaves_heatView _ _ bound
    · rfl
  · split
    · split
      · exact s.closeLeaves_heatView _ bound
      · rfl
    · exact s.closeLeaves_heatView _ bound

theorem State.doorIssue_heatView (s : State) (action side rangeFrom rangeTo : Byte) (bound : s.leavesBound) :
    (s.doorIssue action side rangeFrom rangeTo).1.heatView = s.heatView := by
  have issued (c : DoorCmd) : (s.issue c).1.heatView = s.heatView := by
    unfold State.issue
    dsimp only
    split
    · rfl
    all_goals exact State.applyIssue_heatView _ c bound
  unfold State.doorIssue
  split
  case h_2 => rfl
  case h_1 =>
    split
    · rfl
    · split
      · rfl
      · split
        · exact issued _
        · rfl

theorem State.takeDoorcmd_heatView (s : State) (f : Frame) (bound : s.leavesBound) :
    (s.takeDoorcmd f).heatView = s.heatView := by
  have release (t : State) (c : DoorCmd) (bound : t.leavesBound) :
      (t.receiveRelease f.sender c).heatView = t.heatView := by
    unfold State.receiveRelease
    split
    · rfl
    · split
      · rfl
      · split
        · exact t.releaseLeaves_heatView _ _ bound
        · rfl
  have close (t : State) (c : DoorCmd) (bound : t.leavesBound) : (t.receiveClose f.number c).heatView = t.heatView := by
    unfold State.receiveClose
    split
    · split
      · split
        · exact t.closeLeaves_heatView _ bound
        · rfl
      · exact t.closeLeaves_heatView _ bound
    · exact t.closeLeaves_heatView _ bound
  unfold State.takeDoorcmd
  split
  · rfl
  · dsimp only
    split
    · rfl
    · split
      · exact release _ _ bound
      · exact close _ _ bound

/-- A frame's take leaves the heat view, whichever consumer it goes to (R86). -/
theorem State.takeHead_heatView (s : State) (f : Frame) (rest : List Frame) (bound : s.leavesBound) :
    (s.takeHead f rest).heatView = s.heatView := by
  have consumed (t : State) (bound : t.leavesBound) : (t.consume f).heatView = t.heatView := by
    unfold State.consume
    cases f.kind with
    | reform | hold => rfl
    | roll => exact t.takeRoll_heatView f
    | tally => exact t.takeTally_heatView f
    | doorcmd => exact t.takeDoorcmd_heatView f bound
    | doorstat => exact t.takeDoorstat_heatView f
    | heatbid => exact t.takeHeatbid_heatView f
  have fallen : ((s.setRxp { s.rxp with queue := rest }).noteFall rest.length).heatView = s.heatView := by
    rw [State.noteFall_heatView, State.setRxp_heatView]
  unfold State.takeHead
  dsimp only
  split
  · rw [consumed _ (bound.of_view fallen), fallen]
  · rw [State.count_heatView, fallen]

end Sys2Proof.Machine
end

section
/-! The settled statement about the loaded duties (R95, R101, R102, R147, R161 to R163): every command keeps them
within the targets of the applied grant, and so they never draw more than it. -/

namespace Sys2Proof.Machine

/-! ### The invariant in two parts -/

/-- The heating invariant but for the tie of the targets to the applied grant, which a conversion sets anew. -/
structure State.heatLoaded (s : State) : Prop where
  bank : s.otb.channels.length = 12
  heaters : s.straps.heatCh ≤ 4
  leaves : s.leavesBound
  demands : s.hsu.demands.length = s.straps.heatCh
  percent : ∀ d ∈ s.hsu.demands, d.frost + d.comfort ≤ 100
  targets : s.hsu.targets.length = s.straps.heatCh
  loaded : ∀ k < s.straps.heatCh, ∀ c, s.otb.channel? (8 + k) = some c → targetLoaded (s.hsu.targets.getD k 0) c

theorem State.duties_length (s : State) : s.duties.length = s.hsu.demands.length := List.length_map _

theorem State.heatSound_iff (s : State) : s.heatSound ↔ s.heatLoaded ∧ s.hsu.targets = s.duties := by
  constructor
  · rintro ⟨bank, heaters, leaves, demands, percent, tied, loaded⟩
    have targets : s.hsu.targets.length = s.straps.heatCh := by rw [tied, s.duties_length, demands]
    exact ⟨⟨bank, heaters, leaves, demands, percent, targets, loaded⟩, tied⟩
  · rintro ⟨⟨bank, heaters, leaves, demands, percent, -, loaded⟩, tied⟩
    exact ⟨bank, heaters, leaves, demands, percent, tied, loaded⟩

theorem State.heatSound.loaded {s : State} (h : s.heatSound) : s.heatLoaded := (s.heatSound_iff.mp h).1

theorem State.heatSound.leavesBound {s : State} (h : s.heatSound) : s.leavesBound := h.loaded.leaves

/-! ### The invariant reads the heat view alone -/

/-- A channel is within a target by what it holds of its duty. -/
theorem targetLoaded_congr {target : Nat} {c d : Channel} (same : d.load = c.load) (h : targetLoaded target c) :
    targetLoaded target d := by
  obtain ⟨mode, compare, pending⟩ : d.mode = c.mode ∧ d.compareA = c.compareA ∧ d.pendingA = c.pendingA := by
    simpa [Channel.load] using same
  rw [targetLoaded, mode, compare, pending]
  exact h

/-- The duties are read from the demands, the applied grant and the rating (R162). -/
theorem State.duties_congr {s t : State} (same : t.heatView = s.heatView) : t.duties = s.duties := by
  have straps : t.straps = s.straps := congrArg HeatView.straps same
  have demands : t.hsu.demands = s.hsu.demands := congrArg HeatView.demands same
  have applied : t.hsu.applied = s.hsu.applied := congrArg HeatView.applied same
  have duty : t.channelDuty = s.channelDuty := by
    funext d
    simp only [State.channelDuty, State.channelPower, State.frostOwn, State.comfortOwn, straps, demands, applied]
  rw [State.duties, duty, demands]
  rfl

theorem State.heatLoaded.of_view {s t : State} (h : s.heatLoaded) (same : t.heatView = s.heatView) : t.heatLoaded := by
  have straps : t.straps = s.straps := congrArg HeatView.straps same
  have demands : t.hsu.demands = s.hsu.demands := congrArg HeatView.demands same
  have targets : t.hsu.targets = s.hsu.targets := congrArg HeatView.targets same
  refine ⟨(congrArg HeatView.bank same).trans h.bank, straps ▸ h.heaters, h.leaves.of_view same, ?_, ?_, ?_, ?_⟩
  · rw [demands, straps, h.demands]
  · rw [demands]
    exact h.percent
  · rw [targets, straps, h.targets]
  · intro k hk c hc
    have loads : t.otb.load? k = s.otb.load? k := congrFun (congrArg HeatView.loads same) k
    have load : t.otb.load? k = some c.load := congrArg (Option.map Channel.load) hc
    obtain ⟨d, hd, held⟩ := Option.map_eq_some_iff.mp (loads.symm.trans load)
    rw [targets]
    exact targetLoaded_congr held.symm (h.loaded k (straps ▸ hk) d hd)

theorem State.heatSound.of_view {s t : State} (h : s.heatSound) (same : t.heatView = s.heatView) : t.heatSound := by
  obtain ⟨loaded, tied⟩ := s.heatSound_iff.mp h
  have targets : t.hsu.targets = s.hsu.targets := congrArg HeatView.targets same
  exact t.heatSound_iff.mpr ⟨loaded.of_view same, by rw [targets, tied, State.duties_congr same]⟩

/-! ### What a channel does with its target (R101 to R103, R163) -/

section Channel

variable {c : Channel} {old target : Nat}

theorem targetLoaded.writeDuty (h : targetLoaded old c) (now : Time) (positive : target ≠ 0) :
    targetLoaded target (c.writeDuty now target) := by
  have within : 2 * min target 1000 ≤ 2 * target := Nat.mul_le_mul_left 2 (Nat.min_le_left _ _)
  obtain ⟨running, -⟩ := h
  cases mode : c.mode with
  | sequence => exact absurd mode running
  | off =>
    rw [c.writeDuty_off now target mode]
    refine ⟨nofun, Nat.zero_le _, fun a ha => ?_, fun zero => absurd zero positive, nofun⟩
    dsimp only at ha
    split at ha
    · nomatch ha
    · exact Option.some.inj ha ▸ within
  | pwm =>
    obtain more | less := Nat.lt_or_ge c.compareA (2 * min target 1000)
    · rw [c.writeDuty_increase now target mode more]
      exact ⟨running, Nat.le_trans (Nat.le_of_lt more) within, fun a ha => Option.some.inj ha ▸ within,
        fun zero => absurd zero positive, fun off => nomatch mode.symm.trans off⟩
    · rw [c.writeDuty_decrease now target mode less]
      exact ⟨running, within, nofun, fun zero => absurd zero positive, fun off => nomatch mode.symm.trans off⟩

theorem targetLoaded.stopPwm (h : targetLoaded old c) (stays : old ≠ 0) : targetLoaded 0 c.stopPwm := by
  obtain ⟨running, -, -, -, zero⟩ := h
  cases mode : c.mode with
  | sequence => exact absurd mode running
  | off => exact absurd (zero mode).1 stays
  | pwm =>
    rw [c.stopPwm_pwm mode]
    exact ⟨nofun, Nat.zero_le _, nofun, fun _ => rfl, fun _ => ⟨rfl, rfl⟩⟩

/-- A channel that is within its old target is within the new one once that has reached it. -/
theorem targetLoaded.takeTarget (h : targetLoaded old c) (now : Time) (target : Nat) :
    targetLoaded target (c.takeTarget now old target) := by
  by_cases same : target = old
  · subst same
    rwa [c.takeTarget_same]
  · by_cases zero : target = 0
    · subst zero
      rw [c.takeTarget_zero now old same]
      exact h.stopPwm (Ne.symm same)
    · rw [c.takeTarget_write now old target same zero]
      exact h.writeDuty now zero

/-- The next period loads at most the pending duty, which is within the target (R101 step 2). -/
theorem targetLoaded.nextPeriod (h : targetLoaded target c) (mode : c.mode = .pwm) :
    targetLoaded target c.nextPeriod := by
  obtain ⟨running, compare, pending, zero, -⟩ := h
  refine ⟨running, ?_, nofun, zero, fun off => nomatch mode.symm.trans off⟩
  change c.pendingA.getD c.compareA ≤ 2 * target
  cases waiting : c.pendingA with
  | none => exact compare
  | some a => exact pending a waiting

end Channel

/-! ### The conversion and the applied grant (R161 to R163) -/

section Kept

variable {s : State}

/-- A conversion ties the targets to the applied grant, and every channel is within its new target. -/
theorem State.heatLoaded.convertDuties (h : s.heatLoaded) : s.convertDuties.heatSound := by
  have length : s.duties.length = s.straps.heatCh := s.duties_length.trans h.demands
  refine ⟨(s.otb.sendTargets_length _ _ _ _).trans h.bank, h.heaters, h.leaves, h.demands, h.percent, rfl, ?_⟩
  intro k (hk : k < s.straps.heatCh) c hc
  have old : s.hsu.targets[k]? = some (s.hsu.targets.getD k 0) := by
    rw [List.getD_eq_getElem?_getD, List.getElem?_eq_getElem (h.targets ▸ hk), Option.getD_some]
  have new : s.duties[k]? = some (s.duties.getD k 0) := by
    rw [List.getD_eq_getElem?_getD, List.getElem?_eq_getElem (length ▸ hk), Option.getD_some]
  have sent := s.convertDuties_channel? k _ _ old new
  obtain ⟨d, hd, rfl⟩ := Option.map_eq_some_iff.mp (sent.symm.trans hc)
  exact (h.loaded k hk d hd).takeTarget s.now (s.duties.getD k 0)

/-- A change of the applied grant converts the duties (R161). -/
theorem State.heatLoaded.applyChanged (h : s.heatLoaded) (g : Grant) (change : g ≠ s.hsu.applied) :
    (s.applyGrant g).heatSound := by
  have granted : (s.setHsu { s.hsu with applied := g }).heatLoaded :=
    ⟨h.bank, h.heaters, h.leaves, h.demands, h.percent, h.targets, h.loaded⟩
  rw [State.applyGrant, if_neg change]
  exact (granted.of_view (State.post_heatView _ _)).convertDuties

theorem State.heatSound.applyGrant (h : s.heatSound) (g : Grant) : (s.applyGrant g).heatSound := by
  by_cases same : g = s.hsu.applied
  · rwa [State.applyGrant, if_pos same]
  · exact h.loaded.applyChanged g same

theorem State.heatLoaded.applyGrant (h : s.heatLoaded) (g : Grant) : (s.applyGrant g).heatLoaded := by
  by_cases same : g = s.hsu.applied
  · rwa [State.applyGrant, if_pos same]
  · exact (h.applyChanged g same).loaded

/-- A change of the own values ends with a conversion (R149). -/
theorem State.heatLoaded.ownValuesChanged (h : s.heatLoaded) (totals : Bool) :
    (s.ownValuesChanged totals).heatSound := by
  have bid : (if totals && s.isFormed then s.submitHeatbid.triggerAllocation else s).heatLoaded := by
    split
    · exact h.of_view (by rw [State.triggerAllocation_heatView, State.submitHeatbid_heatView])
    · exact h
  unfold State.ownValuesChanged
  dsimp only
  generalize (if totals && s.isFormed then s.submitHeatbid.triggerAllocation else s) = t at bid ⊢
  refine State.heatLoaded.convertDuties ?_
  split
  · exact bid.applyGrant _
  · exact bid

/-! ### Requests and own events of the HSU (R147, R148, R156, R157, R160) -/

/-- A demand within its ranges takes the place of its channel's old one (R147). -/
theorem State.heatLoaded.setDemand (h : s.heatLoaded) (k : Nat) (d : Demand) (percent : d.frost + d.comfort ≤ 100) :
    (s.setHsu { s.hsu with demands := s.hsu.demands.set k d }).heatLoaded := by
  refine ⟨h.bank, h.heaters, h.leaves, List.length_set.trans h.demands, fun e he => ?_, h.targets, h.loaded⟩
  obtain old | rfl := List.mem_or_eq_of_mem_set he
  · exact h.percent e old
  · exact percent

theorem State.heatSound.heatDemandRequest (h : s.heatSound) (channel frost comfort : Byte) :
    (s.heatDemandRequest channel frost comfort).1.heatSound := by
  unfold State.heatDemandRequest
  dsimp only
  split
  case isTrue => exact h
  case isFalse =>
    split
    case isTrue => exact h
    case isFalse ranges =>
      split
      case isTrue => exact h
      case isFalse =>
        have percent : frost.toNat + comfort.toNat ≤ 100 := by omega
        exact (h.loaded.setDemand channel.toNat _ percent).ownValuesChanged _

theorem State.heatSound.supplyOfferRequest (h : s.heatSound) (offer : BitVec 16) :
    (s.supplyOfferRequest offer).1.heatSound := by
  have offered (n : Nat) : (s.setHsu { s.hsu with offer := n }).heatSound := h.of_view rfl
  unfold State.supplyOfferRequest
  split
  · exact offered 0
  · split
    · exact h
    · split
      · exact h
      · exact (offered _).loaded.ownValuesChanged true

theorem State.heatSound.takeGrant (h : s.heatSound) (a : Allocation) : (s.takeGrant a).heatSound := by
  unfold State.takeGrant
  split
  · refine State.heatSound.applyGrant (h.of_view ?_) _
    exact s.setHsu_heatView_of _ rfl rfl rfl
  · exact h

theorem State.heatSound.endAllocation (h : s.heatSound) (a : Allocation) : (s.endAllocation a).heatSound := by
  have idle : (s.setHsu { s.hsu with alloc := none, rerunPending := false }).heatSound := h.of_view rfl
  unfold State.endAllocation
  dsimp only
  split
  · exact idle.of_view rfl
  · split
    · exact idle
    · exact idle.takeGrant a

/-! ### A heater period's end (R101) -/

/-- The end of a heater channel's period keeps the channel within its target. -/
theorem State.heatSound.nextPeriod (h : s.heatSound) (i : Nat) (c : Channel) (hc : s.otb.channel? i = some c)
    (mode : c.mode = .pwm) : (s.setOtb (s.otb.modify i Channel.nextPeriod)).heatSound := by
  obtain ⟨bank, heaters, leaves, demands, percent, tied, loaded⟩ := h
  refine ⟨(s.otb.modify_length i _).trans bank, heaters, leaves, demands, percent, tied, fun k hk d hd => ?_⟩
  rw [State.setOtb_otb, s.otb.modify_channel?] at hd
  split at hd
  case isTrue here =>
    subst here
    obtain ⟨e, he, rfl⟩ := Option.map_eq_some_iff.mp hd
    obtain rfl : e = c := Option.some.inj (he.symm.trans hc)
    exact (loaded k hk e he).nextPeriod mode
  case isFalse => exact loaded k hk d hd

end Kept

/-! ### External reset (R106, R168, R175) -/

theorem Otb.atRelease_quiet : ∀ c ∈ Otb.atRelease.channels, c.mode = .off ∧ c.compareA = 0 ∧ c.pendingA = none := by
  decide

/-- No demand has a duty of 0. -/
theorem State.channelDuty_none (s : State) : s.channelDuty { frost := 0, comfort := 0 } = 0 := by
  simp [State.channelDuty, State.channelPower, quotient, Demand.frostKw, Demand.comfortKw]

/-- The bank and the HSU at their reset values, with the straps' heater channels. -/
theorem State.heatSound_atRelease (t : State) (otb : t.otb = Otb.atRelease) (hsu : t.hsu = Hsu.atRelease t.straps)
    (heaters : t.straps.heatCh ≤ 4) (leaves : t.leavesBound) : t.heatSound := by
  refine ⟨?_, heaters, leaves, ?_, ?_, ?_, fun k hk c hc => ?_⟩
  · rw [otb]
    rfl
  · rw [hsu, Hsu.atRelease, List.length_replicate]
  · intro d hd
    rw [hsu] at hd
    obtain rfl := List.eq_of_mem_replicate hd
    exact Nat.zero_le _
  · rw [State.duties, hsu, Hsu.atRelease, List.map_replicate, t.channelDuty_none]
  · rw [otb] at hc
    obtain ⟨mode, compare, pending⟩ := Otb.atRelease_quiet c (List.mem_of_getElem? hc)
    have target : t.hsu.targets.getD k 0 = 0 := by
      rw [hsu]
      simp [Hsu.atRelease, hk]
    rw [targetLoaded, mode, compare, pending, target]
    exact ⟨nofun, Nat.zero_le _, nofun, fun _ => rfl, fun _ => ⟨rfl, rfl⟩⟩

theorem latchCount_le (v : BitVec 3) : latchCount v ≤ 4 := Nat.min_le_right _ _

/-- The latched straps give leaf channels to the leaves (R107, R175). -/
theorem Straps.latch_leafIndices (p : StrapPins) : ∀ i ∈ (Straps.latch p).leafIndices, i < 8 := by
  have one := latchCount_le p.leavesS1
  have two := latchCount_le p.leavesS2
  intro i hi
  obtain side1 | side2 := List.mem_append.mp hi
  · have below := List.mem_range.mp side1
    exact Nat.lt_of_lt_of_le below (Nat.le_trans one (by decide))
  · obtain ⟨n, hn, rfl⟩ := List.mem_map.mp side2
    have below : n < 4 := Nat.lt_of_lt_of_le (List.mem_range.mp hn) two
    omega

theorem State.released_heatSound (s : State) (p : StrapPins) : (s.released (Straps.latch p)).heatSound := by
  refine State.heatSound_atRelease _ rfl rfl (latchCount_le p.heatCh) ?_
  have indices := Straps.latch_leafIndices p
  rw [← Dlc.atRelease_indices (Straps.latch p) s.pins] at indices
  exact List.forall_mem_map.mp indices

theorem State.heatSound.asserted {s : State} (h : s.heatSound) : s.asserted.heatSound :=
  State.heatSound_atRelease _ rfl rfl h.loaded.heaters nofun

/-! ### Every command -/

/-- The state of an outcome, if it is one, keeps the heating invariant. -/
def KeepsHeat (s : State) (o : Host.Outcome State Fault Refusal) : Prop :=
  ∀ t, o = .next t → s.heatSound → t.heatSound

theorem keepsHeat_next {s t : State} (keeps : s.heatSound → t.heatSound) : KeepsHeat s (.next t) := by
  intro u next
  exact Host.Outcome.next.inj next ▸ keeps

/-- An event of the node's own whose act keeps the invariant at its occasion. -/
theorem keepsHeat_at {s : State} {o : Option Time} {act : State → State}
    (keeps : ∀ t, o = some t → (s.advanceTo t).heatSound → (act (s.advanceTo t)).heatSound) :
    KeepsHeat s (.next (s.onOccasion o act)) := by
  refine keepsHeat_next fun h => ?_
  obtain same | ⟨t, occasion, -, acts⟩ := s.onOccasion_cases o act
  · rwa [same]
  · rw [acts]
    exact keeps t occasion (h.of_view rfl)

theorem keepsHeat_occasion {s : State} {o : Option Time} {act : State → State}
    (keeps : ∀ t : State, t.heatSound → (act t).heatSound) : KeepsHeat s (.next (s.onOccasion o act)) :=
  keepsHeat_at fun _ _ => keeps _

theorem keepsHeat_service {s t : State} {act : State → State} (pin : t.heatView = s.heatView)
    (keeps : ∀ t : State, t.heatSound → (act t).heatSound) : KeepsHeat s (.next (t.inService act)) := by
  refine keepsHeat_next fun h => ?_
  cases hr : t.inReset
  · rw [t.inService_running act hr]
    exact keeps t (h.of_view pin)
  · rw [t.inService_inReset act hr]
    exact h.of_view pin

theorem keepsHeat_request {s : State} {i : Instr} {act : State → State × List Byte}
    (keeps : ∀ t : State, t.heatSound → (act t).1.heatSound) : KeepsHeat s (.next (s.onRequest i act)) := by
  have taken (t : State) (h : t.heatSound) : (t.takeRequest act).heatSound := (keeps t h).of_view rfl
  refine keepsHeat_next fun h => ?_
  obtain same | acts | acts := s.onRequest_cases i act
  · rwa [same]
  · rw [acts]
    exact taken s h
  · rw [acts]
    exact taken _ (h.of_view rfl)

/-- A request of the port that reads, or writes the port alone. -/
theorem keepsHeat_portRequest {s : State} {i : Instr} {act : State → State × List Byte}
    (port : ∀ t : State, (act t).1.heatView = t.heatView) : KeepsHeat s (.next (s.onRequest i act)) :=
  keepsHeat_request fun t h => h.of_view (port t)

section Commands

variable (s : State)

theorem execExternalResetAssert_keepsHeat : KeepsHeat s (execExternalResetAssert s) := by
  refine keepsHeat_next fun h => ?_
  split
  · exact h
  · exact h.asserted

theorem execTallyRepeat_keepsHeat : KeepsHeat s (execTallyRepeat s) := by
  refine keepsHeat_occasion fun t h => h.of_view ?_
  split <;> rfl

theorem execFrameSent_keepsHeat : KeepsHeat s (execFrameSent s) := by
  refine keepsHeat_occasion fun t h => h.of_view ?_
  split
  · exact State.giveResult_heatView _ _ _
  · rfl

theorem execJamEnd_keepsHeat : KeepsHeat s (execJamEnd s) := by
  refine keepsHeat_occasion fun t h => h.of_view ?_
  split
  · exact State.afterJam_heatView _ _
  · rfl

theorem execRetryAttempt_keepsHeat : KeepsHeat s (execRetryAttempt s) := by
  refine keepsHeat_occasion fun t h => h.of_view ?_
  split
  · exact t.attempt_heatView _
  · rfl

theorem execCarrierOnset_keepsHeat : KeepsHeat s (execCarrierOnset s) := by
  refine keepsHeat_service rfl fun t h => h.of_view ?_
  split <;> rfl

theorem execFrameArrival_keepsHeat (r : Reception) : KeepsHeat s (execFrameArrival r s) := by
  unfold execFrameArrival
  split
  case isFalse => exact keepsHeat_next id
  case isTrue =>
    refine keepsHeat_service rfl fun t h => h.of_view ?_
    dsimp only
    split
    · exact State.endReception_heatView _ r
    · rfl

theorem execFrameTake_keepsHeat : KeepsHeat s (execFrameTake s) := by
  refine keepsHeat_occasion fun t h => h.of_view ?_
  split
  · exact t.takeHead_heatView _ _ h.leavesBound
  · rfl

/-- The output of a leaf channel is no part of a duty, and the leaf's passage reaches its own channel (R99). -/
theorem execAMatch_keepsHeat (i : Nat) : KeepsHeat s (execAMatch i s) := by
  refine keepsHeat_occasion fun t h => ?_
  have active : (t.setOtb (t.otb.modify i fun c => { c with output := true })).heatView = t.heatView :=
    t.setOtb_heatView_of _ (t.otb.modify_length i _) (t.otb.modify_load? i _ fun _ => rfl)
  have sound := h.of_view active
  exact sound.of_view (State.takeAMatch_heatView _ i sound.leavesBound)

/-- A B-match stops a leaf channel (R99). -/
theorem execBMatch_keepsHeat (i : Nat) : KeepsHeat s (execBMatch i s) := by
  refine keepsHeat_at fun t occasion h => ?_
  have leaf : i < 8 := by
    unfold State.leafChannelOccasion at occasion
    split at occasion
    case isTrue leaf => exact leaf
    case isFalse => nomatch occasion
  have stopped : ((s.advanceTo t).setOtb ((s.advanceTo t).otb.modify i Channel.stopRun)).heatView
      = (s.advanceTo t).heatView :=
    State.setOtb_heatView_of _ _ (Otb.modify_length _ i _) (Otb.modify_load?_leaf _ i _ leaf)
  have sound := h.of_view stopped
  exact sound.of_view (State.takeBMatch_heatView _ i sound.leavesBound)

theorem execPwmCompareA_keepsHeat (i : Nat) : KeepsHeat s (execPwmCompareA i s) :=
  keepsHeat_occasion fun t h =>
    h.of_view (t.setOtb_heatView_of _ (t.otb.modify_length i _) (t.otb.modify_load? i _ fun _ => rfl))

/-- A period that ends is one of a channel in PWM. -/
theorem execPwmPeriodEnd_keepsHeat (i : Nat) : KeepsHeat s (execPwmPeriodEnd i s) := by
  refine keepsHeat_at fun t occasion h => ?_
  unfold State.heaterChannelOccasion at occasion
  split at occasion
  case isFalse => nomatch occasion
  case isTrue =>
    obtain ⟨c, hc, due⟩ := Option.bind_eq_some_iff.mp occasion
    exact h.nextPeriod i c hc (c.pwmPeriodEndAt_mode t due)

theorem execRawLeafInputChange_keepsHeat (i : Nat) (input : LeafInput) (level : Bool) :
    KeepsHeat s (execRawLeafInputChange i input level s) := by
  refine keepsHeat_service rfl fun t h => h.of_view ?_
  split
  · exact t.setDlc_put_heatView _
  · rfl

theorem execLeafInputFiltered_keepsHeat (i : Nat) (input : LeafInput) :
    KeepsHeat s (execLeafInputFiltered i input s) := by
  refine keepsHeat_occasion fun t h => h.of_view ?_
  split
  case h_1 l _ => exact t.setDlc_put_heatView _
  case h_2 l found => exact t.takeObChange_heatView l (h.leavesBound.leaf found)
  case h_3 => rfl

theorem execLockComplete_keepsHeat (i : Nat) : KeepsHeat s (execLockComplete i s) := by
  refine keepsHeat_occasion fun t h => h.of_view ?_
  split
  case h_1 l found =>
    have leaf := h.leavesBound.leaf found
    exact t.putLeaf_settled_heatView _ _ leaf
  case h_2 => rfl

theorem execUnlockFault_keepsHeat (i : Nat) : KeepsHeat s (execUnlockFault i s) := by
  refine keepsHeat_occasion fun t h => h.of_view ?_
  split
  case h_1 l found => exact t.faultLeaf_heatView l _ (h.leavesBound.leaf found)
  case h_2 => rfl

theorem execLeafRecovery_keepsHeat (i : Nat) : KeepsHeat s (execLeafRecovery i s) := by
  refine keepsHeat_occasion fun t h => h.of_view ?_
  split
  case h_1 l found =>
    have leaf := h.leavesBound.leaf found
    rw [State.settleLeaves_heatView, State.post_heatView]
    exact t.putLeaf_heatView _ _ leaf
  case h_2 => rfl

theorem execAllocationEnd_keepsHeat : KeepsHeat s (execAllocationEnd s) := by
  refine keepsHeat_service rfl fun t h => ?_
  split
  · exact h.endAllocation _
  · exact h

theorem execHeatbidPeriod_keepsHeat : KeepsHeat s (execHeatbidPeriod s) := by
  refine keepsHeat_occasion fun t h => h.of_view ?_
  rw [State.submitHeatbid_heatView, Hsu.takeBidExpiry]
  split <;> rfl

/-- The LIMIT source sets its grant (R160). -/
theorem execHoldOverExpiry_keepsHeat : KeepsHeat s (execHoldOverExpiry s) := by
  refine keepsHeat_occasion fun t h => State.heatSound.applyGrant (h.of_view ?_) _
  exact t.setHsu_heatView_of _ rfl rfl rfl

theorem execUnknownRequest_keepsHeat (kind : Byte) : KeepsHeat s (execUnknownRequest kind s) := by
  unfold execUnknownRequest
  split
  · exact keepsHeat_request fun t h => h
  · refine keepsHeat_next fun h => h.of_view ?_
    unfold State.clockByte
    split <;> rfl

theorem execChipSelectRise_keepsHeat : KeepsHeat s (execChipSelectRise s) := by
  unfold execChipSelectRise
  split
  · exact keepsHeat_service rfl fun t h => h.of_view rfl
  · exact keepsHeat_next id

theorem execChipSelectFall_keepsHeat : KeepsHeat s (execChipSelectFall s) := by
  unfold execChipSelectFall
  split
  · exact keepsHeat_next id
  · exact keepsHeat_service rfl fun t h => h.of_view rfl

theorem execResponseReady_keepsHeat : KeepsHeat s (execResponseReady s) := by
  refine keepsHeat_service rfl fun t h => h.of_view ?_
  split <;> rfl

/-- Every command keeps the heating invariant: most leave the heat view, the others by their lemmas. -/
theorem exec_keepsHeat (i : Instr) : KeepsHeat s (exec i s) := by
  cases i with
  | externalResetAssert => exact execExternalResetAssert_keepsHeat s
  | externalResetRelease pins => exact keepsHeat_next fun _ => s.released_heatSound pins
  | rawContactChange => exact keepsHeat_service rfl fun t h => h.of_view (t.setEnd_heatView _ _)
  | debouncedContactActive | endBeaconSend => exact keepsHeat_occasion fun t h => h.of_view (t.setEnd_heatView _ _)
  | debouncedContactLost | beaconLoss => exact keepsHeat_occasion fun t h => h.of_view (by simp)
  | endBeaconArrival e chars => exact keepsHeat_service rfl fun t h => h.of_view (t.receiveChars_heatView e chars)
  | faultyReception => exact keepsHeat_occasion fun t h => h.of_view (t.endFaulty_heatView _)
  | tstartExpiry => exact keepsHeat_occasion fun t h => h.of_view (t.startFormation_heatView _)
  | rollRepeat => exact keepsHeat_occasion fun t h => h.of_view (State.renewOwnRecord_heatView _)
  | gatherTimeout => exact keepsHeat_occasion fun t h => h.of_view rfl
  | orderingEnd => exact keepsHeat_service rfl fun t h => h.of_view t.endOrdering_heatView
  | tallyRepeat => exact execTallyRepeat_keepsHeat s
  | tallyTimeout => exact keepsHeat_occasion fun t h => h.of_view (t.failFormation_heatView _)
  | memberSilent => exact keepsHeat_occasion fun t h => h.of_view rfl
  | reform => exact keepsHeat_request fun t h => h.of_view (t.startFormation_heatView _)
  | cabClaim code | cabRelease code => exact keepsHeat_request fun t h => h.of_view (t.cabRequest_heatView code)
  | transmitTake => exact keepsHeat_occasion fun t h => h.of_view t.takeCandidate_heatView
  | breakthroughEligible => exact keepsHeat_occasion fun t h => h
  | carrierOnset => exact execCarrierOnset_keepsHeat s
  | frameSent => exact execFrameSent_keepsHeat s
  | collision | backoffExpiry => exact keepsHeat_occasion fun t h => h.of_view rfl
  | jamEnd => exact execJamEnd_keepsHeat s
  | retryAttempt => exact execRetryAttempt_keepsHeat s
  | lineReset => exact keepsHeat_request fun t h => h.of_view rfl
  | frameArrival r => exact execFrameArrival_keepsHeat s r
  | frameTake => exact execFrameTake_keepsHeat s
  | holdResend | ownHoldExpiry | holdExpiry => exact keepsHeat_occasion fun t h => h.of_view rfl
  | aMatch i => exact execAMatch_keepsHeat s i
  | bMatch i => exact execBMatch_keepsHeat s i
  | pwmCompareA i => exact execPwmCompareA_keepsHeat s i
  | pwmPeriodEnd i => exact execPwmPeriodEnd_keepsHeat s i
  | rawLeafInputChange i input level => exact execRawLeafInputChange_keepsHeat s i input level
  | leafInputFiltered i input => exact execLeafInputFiltered_keepsHeat s i input
  | lockComplete i => exact execLockComplete_keepsHeat s i
  | unlockFault i => exact execUnlockFault_keepsHeat s i
  | leafRecovery i => exact execLeafRecovery_keepsHeat s i
  | isolateOn leaf onOff | isolateOff leaf onOff =>
    exact keepsHeat_request fun t h => h.of_view (t.isolateRequest_heatView leaf onOff h.leavesBound)
  | doorIssueRelease action side lo hi | doorIssueClose action side lo hi =>
    exact keepsHeat_request fun t h => h.of_view (t.doorIssue_heatView action side lo hi h.leavesBound)
  | doorcmdRepeat seq => exact keepsHeat_occasion fun t h => h.of_view (t.repeatCopy_heatView seq)
  | doorstatPeriod => exact keepsHeat_occasion fun t h => h.of_view rfl
  | doorstatStale => exact keepsHeat_occasion fun t h => h.of_view (State.evalDoorsSecure_heatView _)
  | heatDemand channel frost comfort =>
    exact keepsHeat_request fun t h => h.heatDemandRequest channel frost comfort
  | supplyOffer offer => exact keepsHeat_request fun t h => h.supplyOfferRequest offer
  | heatbidPeriod => exact execHeatbidPeriod_keepsHeat s
  | bidStale | settleExpiry => exact keepsHeat_occasion fun t h => h.of_view (State.triggerAllocation_heatView _)
  | allocationEnd => exact execAllocationEnd_keepsHeat s
  | holdOverExpiry => exact execHoldOverExpiry_keepsHeat s
  | status | straps => exact keepsHeat_request fun t h => h
  | consistRead | noticeTake | counterRead | counterDecrement =>
    exact keepsHeat_portRequest fun t => by split <;> rfl
  | unknownRequest kind => exact execUnknownRequest_keepsHeat s kind
  | chipSelectRise => exact execChipSelectRise_keepsHeat s
  | responseReady => exact execResponseReady_keepsHeat s
  | chipSelectFall => exact execChipSelectFall_keepsHeat s

end Commands

/-- Every step keeps the heating invariant: by the command at the front of the queue, or by the node's own time. -/
theorem heatSound_keptBySteps : KeptBySteps State.heatSound := by
  intro s t h next
  unfold step at next
  split at next
  case h_1 c rest _ => exact exec_keepsHeat { s with pending := rest } c t next h
  case h_2 =>
    obtain rfl := Host.Outcome.next.inj next
    refine h.of_view ?_
    unfold State.idle
    split <;> rfl

/-! ### The power of the loaded duties (R101, R162) -/

theorem sum_map_le {α : Type} (xs : List α) (f g : α → Nat) (le : ∀ x ∈ xs, f x ≤ g x) :
    (xs.map f).sum ≤ (xs.map g).sum := by
  induction xs with
  | nil => exact Nat.le_refl _
  | cons x xs ih =>
    obtain ⟨first, rest⟩ := List.forall_mem_cons.mp le
    simp only [List.map_cons, List.sum_cons]
    exact Nat.add_le_add first (ih rest)

theorem sum_map_add {α : Type} (xs : List α) (f g : α → Nat) :
    (xs.map (fun x => f x + g x)).sum = (xs.map f).sum + (xs.map g).sum := by
  induction xs with
  | nil => rfl
  | cons x xs ih =>
    simp only [List.map_cons, List.sum_cons, ih]
    omega

/-- Quotients by one divisor add up to no more than the quotient of the sum. -/
theorem sum_map_div_le (xs : List Nat) (m total : Nat) : (xs.map (fun x => x * m / total)).sum ≤ xs.sum * m / total := by
  induction xs with
  | nil => exact Nat.zero_le _
  | cons x xs ih =>
    rw [List.map_cons, List.sum_cons, List.sum_cons, Nat.add_mul]
    exact Nat.le_trans (Nat.add_le_add_left ih _) Nat.div_add_div_le_add_div

/-- Shares of an amount, in proportion to their part of a total, are together at most the amount (R162). -/
theorem sum_map_quotient_le (ds : List Demand) (f : Demand → Nat) (grant : Nat) :
    (ds.map (fun d => quotient (f d * 1000 * grant) (ds.map f).sum)).sum ≤ 1000 * grant := by
  unfold quotient
  by_cases none : (ds.map f).sum = 0
  · simp only [if_pos none, List.map_const', List.sum_replicate_nat, Nat.mul_zero]
    exact Nat.zero_le _
  · have shares := sum_map_div_le (ds.map f) (1000 * grant) (ds.map f).sum
    rw [List.map_map, Nat.mul_div_cancel_left _ (Nat.pos_of_ne_zero none)] at shares
    simp only [if_neg none, Nat.mul_assoc]
    exact shares

/-- The P_k of all channels are together at most the applied grant. -/
theorem State.sum_channelPower_le (s : State) :
    (s.hsu.demands.map s.channelPower).sum ≤ 1000 * (s.hsu.applied.frost + s.hsu.applied.comfort) := by
  have frost := sum_map_quotient_le s.hsu.demands (fun d => d.frostKw s.straps.rating)
    (min s.hsu.applied.frost s.frostOwn)
  have comfort := sum_map_quotient_le s.hsu.demands (fun d => d.comfortKw s.straps.rating)
    (min s.hsu.applied.comfort s.comfortOwn)
  have frostLimit : min s.hsu.applied.frost s.frostOwn ≤ s.hsu.applied.frost := Nat.min_le_left _ _
  have comfortLimit : min s.hsu.applied.comfort s.comfortOwn ≤ s.hsu.applied.comfort := Nat.min_le_left _ _
  have split : (s.hsu.demands.map s.channelPower).sum
      = (s.hsu.demands.map (fun d => quotient (d.frostKw s.straps.rating * 1000 * min s.hsu.applied.frost s.frostOwn)
            s.frostOwn)).sum
        + (s.hsu.demands.map (fun d =>
            quotient (d.comfortKw s.straps.rating * 1000 * min s.hsu.applied.comfort s.comfortOwn) s.comfortOwn)).sum :=
    sum_map_add _ _ _
  rw [split]
  calc
    _ ≤ 1000 * min s.hsu.applied.frost s.frostOwn + 1000 * min s.hsu.applied.comfort s.comfortOwn :=
      Nat.add_le_add frost comfort
    _ ≤ 1000 * (s.hsu.applied.frost + s.hsu.applied.comfort) := by omega

/-- The power of the target duties is at most that of the P_k they are rounded down from (R162). -/
theorem State.sum_duties_le (s : State) :
    (s.duties.map (· * s.straps.rating)).sum ≤ (s.hsu.demands.map s.channelPower).sum := by
  rw [State.duties, List.map_map]
  exact sum_map_le _ _ _ fun d _ => Nat.div_mul_le_self _ _

/-- The duties that are loaded are within the target duties (R102). -/
theorem State.heatLoaded.loadedPower_le {s : State} (h : s.heatLoaded) :
    s.loadedPower ≤ (s.hsu.targets.map (· * s.straps.rating)).sum := by
  have targets : s.hsu.targets = (List.range s.straps.heatCh).map (fun k => s.hsu.targets.getD k 0) := by
    refine List.ext_getElem (by simp [h.targets]) fun k hk _ => ?_
    simp [List.getElem?_eq_getElem hk]
  rw [targets, List.map_map]
  refine sum_map_le _ _ _ fun k hk => ?_
  rw [Function.comp_apply]
  split
  case h_1 c hc =>
    obtain ⟨-, compare, -⟩ := h.loaded k (List.mem_range.mp hk) c hc
    have duty : c.compareA / 2 ≤ s.hsu.targets.getD k 0 := by omega
    exact Nat.mul_le_mul_right _ duty
  case h_2 => exact Nat.zero_le _

theorem State.heatSound.powerWithinGrant {s : State} (h : s.heatSound) : s.powerWithinGrant := by
  obtain ⟨loaded, tied⟩ := s.heatSound_iff.mp h
  calc
    s.loadedPower ≤ (s.hsu.targets.map (· * s.straps.rating)).sum := loaded.loadedPower_le
    _ = (s.duties.map (· * s.straps.rating)).sum := by rw [tied]
    _ ≤ (s.hsu.demands.map s.channelPower).sum := s.sum_duties_le
    _ ≤ 1000 * (s.hsu.applied.frost + s.hsu.applied.comfort) := s.sum_channelPower_le

/-- Settles O7: every command keeps the invariant, and rounding down keeps the power within the grant. -/
theorem heatSoundKept : Obligations.HeatSoundKept :=
  ⟨heatSound_keptBySteps, fun _ h => h.powerWithinGrant⟩

end Sys2Proof.Machine
end

section
/-! SUPPORT. What doors-secure reads of a state (the secure view), and the operations that leave it: all but a change
of the leaf states, the door status or the formation (R137 to R144). -/

namespace Sys2Proof.Machine

/-! ### The secure view -/

/-- What the DCU holds of the doors-secure condition, and its state (R141): the rest has its reset values. -/
def Dcu.doors (d : Dcu) : Dcu :=
  { d with issueSeq := 0, schedule := [], dedup := [], doorstatTimer := none, doorstatOwed := none }

/-- All that the invariant of doors-secure reads of a state. -/
structure SecureView where
  own : NodeId
  formState : FormState
  ordering : Bool
  ids : List NodeId
  partialFlag : Bool
  doors : Dcu

def State.secureView (s : State) : SecureView where
  own := s.id
  formState := s.cc.formState
  ordering := s.cc.ordering.isSome
  ids := s.cc.table.entries.map (fun e => e.member.id)
  partialFlag := s.cc.table.partialFlag
  doors := s.dcu.doors

/-- The own position among the nodes of a view (R47). -/
def SecureView.ownPosition (v : SecureView) : Nat := (positionWhere (fun x => x = v.own) v.ids).getD 0

/-- The condition of R141 on a view. -/
def SecureView.doorsSecure (v : SecureView) : Bool :=
  decide (v.formState = .formed) && !v.partialFlag && v.doors.side1.secure && v.doors.side2.secure
    && ((List.range v.ids.length).map (· + 1)).all (fun p => p = v.ownPosition || v.doors.reportsSecure p)

theorem State.ownPosition_view (s : State) : s.ownPosition = s.secureView.ownPosition :=
  congrArg (Option.getD · 0) (positionWhere_map (fun e : TableEntry => e.member.id) (fun x => x = s.id) _).symm

theorem State.doorsSecure_view (s : State) : s.doorsSecure = s.secureView.doorsSecure := by
  have size : s.cc.table.size = s.secureView.ids.length := (List.length_map _).symm
  rw [State.doorsSecure, s.ownPosition_view, size]
  rfl

/-- The invariant reads the view alone. -/
theorem State.secureExact_view (s : State) :
    s.secureExact ↔ (s.secureView.ordering = true → s.secureView.formState = .gather)
      ∧ s.secureView.doors.secureOn = s.secureView.doorsSecure := by
  rw [State.secureExact, s.doorsSecure_view]
  rfl

theorem State.secureExact.of_view {s t : State} (h : s.secureExact) (same : t.secureView = s.secureView) :
    t.secureExact := by
  rw [t.secureExact_view, same]
  exact s.secureExact_view.mp h

/-- What leaves the CC, the straps and the DCU's part leaves the view. -/
theorem State.secureView_of_kept {s t : State} (kept : t.cc = s.cc ∧ t.straps = s.straps)
    (doors : t.dcu.doors = s.dcu.doors) : t.secureView = s.secureView := by
  obtain ⟨cc, straps⟩ := kept
  simp only [State.secureView, State.id, cc, straps, doors]

/-! ### The block updates -/

section Quiet

variable (s : State)

@[simp] theorem State.advanceTo_secureView (t : Time) : (s.advanceTo t).secureView = s.secureView := rfl
@[simp] theorem State.setPins_secureView (v : Pins) : (s.setPins v).secureView = s.secureView := rfl
@[simp] theorem State.setLau_secureView (v : Lau) : (s.setLau v).secureView = s.secureView := rfl
@[simp] theorem State.setRxp_secureView (v : Rxp) : (s.setRxp v).secureView = s.secureView := rfl
@[simp] theorem State.setLhu_secureView (v : Lhu) : (s.setLhu v).secureView = s.secureView := rfl
@[simp] theorem State.setPort_secureView (v : Port) : (s.setPort v).secureView = s.secureView := rfl
@[simp] theorem State.post_secureView (n : Notice) : (s.post n).secureView = s.secureView := rfl
@[simp] theorem State.count_secureView (c : Counter) : (s.count c).secureView = s.secureView := rfl
@[simp] theorem State.setEnd_secureView (e : CoachEnd) (v : EndLink) : (s.setEnd e v).secureView = s.secureView := by
  cases e <;> rfl

/-! ### Submissions and the DCU's timers (R59 to R62, R138) -/

@[simp] theorem State.submitDoorstat_secureView : s.submitDoorstat.secureView = s.secureView := rfl

theorem Dcu.takeDoorstatExpiry_doors (d : Dcu) : d.takeDoorstatExpiry.doors = d.doors := by
  unfold Dcu.takeDoorstatExpiry
  split <;> rfl

@[simp] theorem State.takeDoorstatExpiry_secureView :
    (s.setDcu s.dcu.takeDoorstatExpiry).secureView = s.secureView :=
  State.secureView_of_kept ⟨rfl, rfl⟩ s.dcu.takeDoorstatExpiry_doors

@[simp] theorem State.repeatCopy_secureView (seq : Byte) : (s.repeatCopy seq).secureView = s.secureView := by
  unfold State.repeatCopy
  split <;> rfl

/-! ### Heating (R147 to R161) -/

@[simp] theorem State.triggerAllocation_secureView : s.triggerAllocation.secureView = s.secureView :=
  State.secureView_of_kept (by simp) (by simp)

@[simp] theorem State.applyGrant_secureView (g : Grant) : (s.applyGrant g).secureView = s.secureView :=
  State.secureView_of_kept (by simp) (by simp)

@[simp] theorem State.hsuFormedEntry_secureView : s.hsuFormedEntry.secureView = s.secureView :=
  State.secureView_of_kept (by simp) (by simp)

@[simp] theorem State.takeHeatbid_secureView (f : Frame) : (s.takeHeatbid f).secureView = s.secureView := by
  have stored (p : Nat) (i : AllocInput) : (s.storeBid p i).dcu = s.dcu := by
    unfold State.storeBid
    dsimp only
    split <;> split <;> simp
  refine State.secureView_of_kept (s.takeHeatbid_keepsCc f) (congrArg Dcu.doors ?_)
  unfold State.takeHeatbid
  split
  · split
    · split <;> simp [stored]
    · rfl
  · rfl

@[simp] theorem State.endAllocation_secureView (a : Allocation) : (s.endAllocation a).secureView = s.secureView := by
  refine State.secureView_of_kept (s.endAllocation_keepsCc a) (congrArg Dcu.doors ?_)
  unfold State.endAllocation State.takeGrant
  dsimp only
  split
  · simp
  · split
    · simp
    · split <;> simp

theorem State.ownValuesChanged_dcu (totals : Bool) : (s.ownValuesChanged totals).dcu = s.dcu := by
  unfold State.ownValuesChanged
  dsimp only
  split <;> split <;> simp

@[simp] theorem State.heatDemandRequest_secureView (channel frost comfort : Byte) :
    (s.heatDemandRequest channel frost comfort).1.secureView = s.secureView := by
  refine State.secureView_of_kept (s.heatDemandRequest_keepsCc channel frost comfort) (congrArg Dcu.doors ?_)
  unfold State.heatDemandRequest
  dsimp only
  split
  · rfl
  · split
    · rfl
    · split <;> simp [State.ownValuesChanged_dcu]

@[simp] theorem State.supplyOfferRequest_secureView (offer : BitVec 16) :
    (s.supplyOfferRequest offer).1.secureView = s.secureView := by
  refine State.secureView_of_kept (s.supplyOfferRequest_keepsCc offer) (congrArg Dcu.doors ?_)
  unfold State.supplyOfferRequest
  split
  · rfl
  · split
    · rfl
    · split <;> simp [State.ownValuesChanged_dcu]

/-! ### The line (R63 to R93, R132, R133) -/

@[simp] theorem State.giveResult_secureView (f : Frame) (r : TxResult) :
    (s.giveResult f r).secureView = s.secureView := by
  unfold State.giveResult State.copyStale State.holdSent State.holdLost
  dsimp only
  split
  case h_4 => split <;> rfl
  case h_6 =>
    split
    · rfl
    · split <;> rfl
  case h_7 | h_8 => split <;> rfl
  all_goals rfl

@[simp] theorem State.attempt_secureView (c : CurrentFrame) : (s.attempt c).secureView = s.secureView := by
  unfold State.attempt
  split <;> simp

@[simp] theorem State.takeCandidate_secureView : s.takeCandidate.secureView = s.secureView := by
  unfold State.takeCandidate
  split
  · dsimp only
    split <;> simp
  · rfl

@[simp] theorem State.afterJam_secureView (c : CurrentFrame) : (s.afterJam c).secureView = s.secureView := by
  have givenUp (t : State) (f : Frame) (r : TxResult) : (t.giveUp f r).secureView = t.secureView := by
    obtain ⟨port, posted, -, -⟩ := t.postAbandoned_eq f
    rw [State.giveUp, posted, State.setLau_secureView, State.giveResult_secureView, State.setPort_secureView]
  unfold State.afterJam
  split
  case h_1 => rfl
  case h_2 =>
    dsimp only
    split <;> rfl
  case h_3 =>
    split
    · rw [givenUp, State.count_secureView]
    · split
      · rw [givenUp, State.count_secureView]
      · rfl

@[simp] theorem State.noteRise_secureView (before after : Nat) :
    (s.noteRise before after).secureView = s.secureView := by
  obtain ⟨lhu, lau, h⟩ := s.noteRise_eq before after
  rw [h, State.setLau_secureView, State.setLhu_secureView]

@[simp] theorem State.noteFall_secureView (after : Nat) : (s.noteFall after).secureView = s.secureView := by
  obtain ⟨lhu, lau, h⟩ := s.noteFall_eq after
  rw [h, State.setLau_secureView, State.setLhu_secureView]

@[simp] theorem State.enqueue_secureView (f : Frame) : (s.enqueue f).secureView = s.secureView := by
  unfold State.enqueue
  dsimp only
  split <;> simp

/-! ### The end links (R1, R6) -/

@[simp] theorem State.endFaulty_secureView (e : CoachEnd) : (s.endFaulty e).secureView = s.secureView := by
  simp [State.endFaulty]

@[simp] theorem State.endFaultyBy_secureView (e : CoachEnd) (t : Time) :
    (s.endFaultyBy e t).secureView = s.secureView := by
  unfold State.endFaultyBy
  split
  · split <;> simp
  · rfl

end Quiet

end Sys2Proof.Machine
end

section
/-! SUPPORT. What the operations of the doors and of the Consist Controller keep: doors-secure is on exactly when its
condition holds (R23, R36, R137 to R144). -/

namespace Sys2Proof.Machine

section Kept

variable {s : State}

/-! ### The evaluation (R142) -/

/-- An evaluation makes the state exact, whatever it was before. -/
theorem State.orderingSound.evalDoorsSecure (h : s.orderingSound) : s.evalDoorsSecure.secureExact := by
  have condition : s.evalDoorsSecure.doorsSecure = s.doorsSecure := by
    unfold State.evalDoorsSecure
    split <;> rfl
  refine ⟨?_, ?_⟩
  · rw [State.orderingSound, State.evalDoorsSecure_cc]
    exact h
  · rw [condition, State.evalDoorsSecure_dcu]

/-- Outside FORMED doors-secure is off (R141 condition 1). -/
theorem State.secureExact_notFormed (out : s.cc.formState ≠ .formed) :
    s.secureExact ↔ s.orderingSound ∧ s.dcu.secureOn = false := by
  rw [State.secureExact, s.doorsSecure_notFormed (s.isFormed_eq_false_iff.mpr out)]

theorem State.secureExact.off (h : s.secureExact) (out : s.cc.formState ≠ .formed) : s.dcu.secureOn = false :=
  ((State.secureExact_notFormed out).mp h).2

/-- From one state outside FORMED to another with the same DCU. -/
theorem State.secureExact.outside (h : s.secureExact) (out : s.cc.formState ≠ .formed) {t : State}
    (dcu : t.dcu = s.dcu) (stays : t.cc.formState ≠ .formed) (ordering : t.orderingSound) : t.secureExact :=
  (State.secureExact_notFormed stays).mpr ⟨ordering, dcu ▸ h.off out⟩

/-- An ordering computation runs in GATHER alone. -/
theorem State.orderingSound.idle (h : s.orderingSound) (out : s.cc.formState ≠ .gather) : s.cc.ordering = none := by
  cases running : s.cc.ordering with
  | none => rfl
  | some o => exact absurd (h (by rw [running]; rfl)) out

theorem State.orderingSound.of_none (idle : s.cc.ordering = none) : s.orderingSound := by
  intro running
  rw [idle] at running
  nomatch running

/-- A change of the DCU and an evaluation after it. -/
theorem State.secureExact.setDcu_evaluated (h : s.secureExact) (d : Dcu) :
    (s.setDcu d).evalDoorsSecure.secureExact :=
  State.orderingSound.evalDoorsSecure h.1

/-! ### Leaves (R108 to R125) -/

/-- A change of the summaries is evaluated (R125, R142). -/
theorem State.secureExact.settleLeaves (h : s.secureExact) : s.settleLeaves.secureExact := by
  unfold State.settleLeaves
  dsimp only
  split
  · exact h
  · refine State.orderingSound.evalDoorsSecure ?_
    split <;> exact h.1

theorem State.secureExact.setOtb (h : s.secureExact) (o : Otb) : (s.setOtb o).secureExact := h.of_view rfl

theorem State.secureExact.putLeaf (h : s.secureExact) (l : Leaf) (o : ChannelOrder) : (s.putLeaf l o).secureExact :=
  h.of_view rfl

theorem State.secureExact.faultLeaf (h : s.secureExact) (l : Leaf) (r : FaultReason) :
    (s.faultLeaf l r).secureExact :=
  State.secureExact.settleLeaves (h.of_view rfl)

theorem State.secureExact.obstructLeaf (h : s.secureExact) (l : Leaf) : (s.obstructLeaf l).secureExact := by
  unfold State.obstructLeaf
  dsimp only
  split
  · exact (h.putLeaf _ _).settleLeaves
  · exact h.faultLeaf _ _

theorem State.secureExact.enterDrive (h : s.secureExact) (l : Leaf) : (s.enterDrive l).secureExact := by
  unfold State.enterDrive
  dsimp only
  split
  · exact h.obstructLeaf _
  · exact (h.putLeaf _ _).settleLeaves

theorem State.secureExact.takeAMatch (h : s.secureExact) (i : Nat) : (s.takeAMatch i).secureExact := by
  unfold State.takeAMatch
  split
  · split
    · exact h.enterDrive _
    · exact h.enterDrive _
    all_goals exact h
  · exact h

theorem State.secureExact.takeBMatch (h : s.secureExact) (i : Nat) : (s.takeBMatch i).secureExact := by
  unfold State.takeBMatch
  split
  · split
    · exact h.faultLeaf _ _
    all_goals exact h
  · exact h

theorem State.secureExact.takeStartMatches (h : s.secureExact) (orders : List (Nat × ChannelOrder)) :
    (s.takeStartMatches orders).secureExact := by
  unfold State.takeStartMatches
  induction orders generalizing s with
  | nil => exact h
  | cons x xs ih =>
    rw [List.foldl_cons]
    split
    · exact ih (h.takeAMatch x.1)
    · exact ih h

theorem State.secureExact.onLeaves (h : s.secureExact) (sides : List Side) (passage : Leaf → Leaf × ChannelOrder) :
    (s.onLeaves sides passage).secureExact := by
  have passed : (s.passLeaves sides passage).secureExact := h.of_view rfl
  exact passed.settleLeaves.takeStartMatches _

theorem State.secureExact.releaseLeaves (h : s.secureExact) (sides : List Side) (n : FormationNumber) :
    (s.releaseLeaves sides n).secureExact := by
  unfold State.releaseLeaves
  split
  · exact h.onLeaves _ _
  · exact h

theorem State.secureExact.closeLeaves (h : s.secureExact) (sides : List Side) : (s.closeLeaves sides).secureExact :=
  h.onLeaves _ _

theorem State.secureExact.takeObChange (h : s.secureExact) (l : Leaf) : (s.takeObChange l).secureExact := by
  unfold State.takeObChange
  dsimp only
  split
  · exact h.obstructLeaf _
  · exact h.of_view rfl

theorem State.secureExact.endIsolation (h : s.secureExact) (l : Leaf) : (s.endIsolation l).secureExact := by
  unfold State.endIsolation
  split
  · split
    · exact (h.putLeaf _ _).settleLeaves
    · exact h.faultLeaf _ _
  · exact h

theorem State.secureExact.isolateRequest (h : s.secureExact) (leaf onOff : Byte) :
    (s.isolateRequest leaf onOff).1.secureExact := by
  unfold State.isolateRequest
  split
  case h_1 | h_2 => exact h
  case h_3 => exact (h.putLeaf _ _).settleLeaves
  case h_4 => exact h.endIsolation _

/-! ### Door commands and door status (R128 to R140) -/

theorem State.secureExact.applyIssue (h : s.secureExact) (c : DoorCmd) : (s.applyIssue c).secureExact := by
  unfold State.applyIssue
  split
  · split
    · exact h.releaseLeaves _ _
    · exact h
  · split
    · split
      · exact h.closeLeaves _
      · exact h
    · exact h.closeLeaves _

theorem State.secureExact.issue (h : s.secureExact) (c : DoorCmd) : (s.issue c).1.secureExact := by
  unfold State.issue
  dsimp only
  split
  · exact h
  all_goals
    refine State.secureExact.applyIssue ?_ c
    exact h.of_view rfl

theorem State.secureExact.doorIssue (h : s.secureExact) (action side rangeFrom rangeTo : Byte) :
    (s.doorIssue action side rangeFrom rangeTo).1.secureExact := by
  unfold State.doorIssue
  split
  case h_2 => exact h
  case h_1 =>
    split
    · exact h
    · split
      · exact h
      · split
        · exact h.issue _
        · exact h

theorem State.secureExact.receiveRelease (h : s.secureExact) (sender : NodeId) (c : DoorCmd) :
    (s.receiveRelease sender c).secureExact := by
  unfold State.receiveRelease
  split
  · exact h.of_view rfl
  · split
    · exact h.of_view rfl
    · split
      · exact h.releaseLeaves _ _
      · exact h

theorem State.secureExact.receiveClose (h : s.secureExact) (n : FormationNumber) (c : DoorCmd) :
    (s.receiveClose n c).secureExact := by
  unfold State.receiveClose
  split
  · split
    · split
      · exact h.closeLeaves _
      · exact h
    · exact h.closeLeaves _
  · exact h.closeLeaves _

theorem State.secureExact.takeDoorcmd (h : s.secureExact) (f : Frame) : (s.takeDoorcmd f).secureExact := by
  unfold State.takeDoorcmd
  split
  · exact h
  · rename_i c _
    have looked : (s.setDcu { s.dcu with dedup := (dedupLookup s.dcu.dedup f.sender c.seq s.now).2 }).secureExact :=
      h.of_view rfl
    dsimp only
    split
    · exact looked
    · split
      · exact looked.receiveRelease _ _
      · exact looked.receiveClose _ _

theorem State.secureExact.takeDoorstat (h : s.secureExact) (f : Frame) : (s.takeDoorstat f).secureExact := by
  unfold State.takeDoorstat
  split
  · split
    · exact h.setDcu_evaluated _
    · exact h
  · exact h

/-! ### GATHER (R18, R19, R23 to R29) -/

/-- A change of the CC that the condition does not read. -/
theorem State.secureExact.setCc (h : s.secureExact) {c : Cc} (formState : c.formState = s.cc.formState)
    (ordering : c.ordering = s.cc.ordering) (table : c.table = s.cc.table) : (s.setCc c).secureExact := by
  refine h.of_view ?_
  simp only [State.secureView, State.setCc_cc, State.setCc_id, State.setCc_dcu, formState, ordering, table]

/-- A computation that starts in GATHER (R28). -/
theorem State.secureExact.startOrdering (h : s.secureExact) (gather : s.cc.formState = .gather) (p : Bool) :
    (s.startOrdering p).secureExact := by
  have out : s.cc.formState ≠ .formed := fun formed => nomatch gather.symm.trans formed
  exact h.outside out rfl out fun _ => gather

theorem State.secureExact.testClosure (h : s.secureExact) (gather : s.cc.formState = .gather) :
    s.testClosure.secureExact := by
  unfold State.testClosure
  split
  · exact h.startOrdering gather false
  · exact h

theorem State.secureExact.renewOwnRecord (h : s.secureExact) : s.renewOwnRecord.secureExact := by
  unfold State.renewOwnRecord
  split
  case isTrue gathering =>
    obtain ⟨gather, -⟩ := gathering
    exact State.secureExact.testClosure (h.setCc rfl rfl rfl) gather
  case isFalse => exact h

/-- In GATHER the DCU of a node that was FORMED is told, and turns doors-secure off (R23, R144). -/
theorem State.secureExact.tellLeft (h : s.secureExact) {t : State} (gather : t.cc.formState = .gather)
    (dcu : t.dcu = s.dcu) : (t.tellLeft s.isFormed).secureExact := by
  have ordering : t.orderingSound := fun _ => gather
  cases was : s.isFormed with
  | true =>
    have left : t.dcuLeaveFormed.secureExact := State.orderingSound.evalDoorsSecure ordering
    exact left.of_view rfl
  | false =>
    have stays : t.cc.formState ≠ .formed := fun formed => nomatch gather.symm.trans formed
    exact h.outside (s.isFormed_eq_false_iff.mp was) dcu stays ordering

theorem State.secureExact.startFormation (h : s.secureExact) (r : ReformReason) :
    (s.startFormation r).secureExact :=
  h.tellLeft (State.enterGather_formState _) (by simp)

theorem State.secureExact.adopt (h : s.secureExact) (n : FormationNumber) (r : LeftReason) :
    (s.adopt n r).secureExact :=
  h.tellLeft (State.enterGather_formState _) (by simp)

/-! ### Sightings (R17, R22, R52) -/

/-- A table with the same nodes and the same PARTIAL flag. -/
theorem State.secureExact.setTable (h : s.secureExact) (t : ConsistTable)
    (members : t.entries.map TableEntry.member = s.cc.table.entries.map TableEntry.member)
    (partialFlag : t.partialFlag = s.cc.table.partialFlag) : (s.setCc { s.cc with table := t }).secureExact := by
  have ids (u : ConsistTable) :
      u.entries.map (fun e => e.member.id) = (u.entries.map TableEntry.member).map Member.id := by
    rw [List.map_map]
    rfl
  refine h.of_view ?_
  simp only [State.secureView, State.setCc_cc, ids, members, partialFlag]
  rfl

theorem State.secureExact.hearMember (h : s.secureExact) (id : NodeId) (p : Nat) :
    (s.hearMember id p).secureExact := by
  have heard := h.setTable (s.cc.table.hear id s.now) (ConsistTable.hear_members _ id s.now) rfl
  unfold State.hearMember
  dsimp only
  split
  · exact heard.of_view rfl
  · exact heard

theorem State.secureExact.sight (h : s.secureExact) (f : Frame) : (s.sight f).secureExact := by
  unfold State.sight State.sightEqual
  split
  · exact h.adopt _ _
  · split
    · split
      · split
        · exact h.hearMember _ _
        · split
          · exact h
          · exact h.startFormation _
      · exact h
    · exact h

/-! ### SOLO and a failed formation (R35, R37, R38) -/

/-- Outside GATHER and FORMED no computation runs and doors-secure is off, so SOLO entry leaves both. -/
theorem State.secureExact.enterSolo (h : s.secureExact) (tally : s.cc.formState = .tally) :
    s.enterSolo.secureExact := by
  have idle : s.cc.ordering = none := h.1.idle fun gather => nomatch tally.symm.trans gather
  refine h.outside (fun formed => nomatch tally.symm.trans formed) s.enterSolo_dcu ?_ (.of_none ?_)
  · rw [State.enterSolo_cc]
    nofun
  · rw [State.enterSolo_cc]
    exact idle

/-- A formation fails in TALLY (R35). -/
theorem State.secureExact.failFormation (h : s.secureExact) (tally : s.cc.formState = .tally) (r : ReformReason) :
    (s.failFormation r).secureExact := by
  have counted : s.failCounted.secureExact := h.of_view rfl
  obtain below | limit := Nat.lt_or_ge (s.cc.failedCount + 1) Config.failLimit
  · rw [s.failFormation_starts r below]
    exact counted.startFormation r
  · rw [s.failFormation_solo r limit]
    exact counted.enterSolo tally

/-! ### TALLY and FORMED (R28, R31 to R36, R49, R50, R143) -/

/-- FORMED entry evaluates the condition on the table it commits (R36, R143). -/
theorem State.secureExact_enterFormed (idle : s.cc.ordering = none) (o : CandidateOrder) :
    (s.enterFormed o).secureExact := by
  have entered (t : State) (idle : t.cc.ordering = none) : t.dcuFormedEntry.hsuFormedEntry.secureExact := by
    have evaluated := State.orderingSound.evalDoorsSecure
      (s := t.setDcu { t.dcu with doorStatus := [] }) (.of_none idle)
    exact evaluated.of_view (by simp [State.dcuFormedEntry])
  refine entered _ ?_
  rw [State.post_cc, State.followCab_cc]
  exact idle

/-- An agreement set that is complete commits the candidate order (R33). -/
theorem State.secureExact.formIfAgreed (h : s.secureExact) (idle : s.cc.ordering = none) (agreement : List Nat)
    (early : List EarlyTally) (o : CandidateOrder) :
    ((s.setCc { s.cc with agreement := agreement, earlyTallies := early }).formIfAgreed o).secureExact := by
  unfold State.formIfAgreed
  split
  · refine State.secureExact_enterFormed ?_ o
    exact idle
  · exact h.setCc rfl rfl rfl

/-- TALLY entry from GATHER ends the computation (R31). -/
theorem State.secureExact.enterTally (h : s.secureExact) (gather : s.cc.formState = .gather) (o : CandidateOrder) :
    (s.enterTally o).secureExact := by
  have out : s.cc.formState ≠ .formed := fun formed => nomatch gather.symm.trans formed
  have entered : (s.inTally o).secureExact := h.outside out rfl nofun (.of_none rfl)
  cases mismatch : earlyMismatch o s.cc.earlyTallies with
  | true =>
    rw [s.enterTally_mismatch o mismatch]
    exact entered.failFormation rfl .mismatch
  | false =>
    obtain ⟨a, folded, -⟩ := Cc.foldl_agreeTally o s.cc.earlyTallies (s.cc.forTally o s.id s.now)
    have agreed : (s.inTally o).cc.agreeEarly o = { s.cc.forTally o s.id s.now with agreement := a } :=
      (Cc.agreeEarly_eq _ o).trans folded
    have matched : s.enterTally o
        = ((s.inTally o).setCc { (s.inTally o).cc.agreeEarly o with earlyTallies := [] }).formIfAgreed o :=
      if_neg (ne_true_of_eq_false mismatch)
    rw [matched, agreed]
    exact entered.formIfAgreed rfl a [] o

theorem State.secureExact.endOrdering (h : s.secureExact) : s.endOrdering.secureExact := by
  unfold State.endOrdering
  split
  case h_1 => exact h.setCc rfl rfl rfl
  case h_2 o _ running =>
    have gather : s.cc.formState = .gather := h.1 (by rw [running]; rfl)
    exact h.enterTally gather _
  case h_3 => exact h

/-! ### ROLLs and TALLYs taken (R26, R32 to R34) -/

theorem State.secureExact.compareTally (h : s.secureExact) (tally : s.cc.formState = .tally) (sender : NodeId)
    (t : Tally) : (s.compareTally sender t).secureExact := by
  have idle : s.cc.ordering = none := h.1.idle fun gather => nomatch tally.symm.trans gather
  unfold State.compareTally
  split
  case h_2 => exact h
  case h_1 o _ =>
    split
    case h_2 => exact h
    case h_1 p _ =>
      split
      case isFalse => exact h.failFormation tally _
      case isTrue =>
        rw [Cc.agree_eq]
        exact h.formIfAgreed idle _ _ o

theorem State.secureExact.takeTally (h : s.secureExact) (f : Frame) : (s.takeTally f).secureExact := by
  unfold State.takeTally
  split
  · exact h
  · split
    case h_1 => exact h.setCc rfl rfl rfl
    case h_2 tally => exact h.compareTally tally _ _
    all_goals exact h

theorem State.secureExact.gatherRoll (h : s.secureExact) (gather : s.cc.formState = .gather) (r : RollRecord) :
    (s.gatherRoll r).secureExact := by
  unfold State.gatherRoll
  split
  · have gathered : (s.setCc { s.cc with candidates := putRecord s.cc.candidates r }).secureExact :=
      h.setCc rfl rfl rfl
    dsimp only
    split
    · exact gathered
    · exact gathered.testClosure gather
  · split
    · exact h
    · exact State.secureExact.of_view (h.setCc (c := { s.cc with oversize := true }) rfl rfl rfl) rfl

theorem State.secureExact.takeRoll (h : s.secureExact) (f : Frame) : (s.takeRoll f).secureExact := by
  unfold State.takeRoll State.compareRoll
  split
  · exact h
  · split
    case h_1 gather => exact h.gatherRoll gather _
    case h_2 | h_3 =>
      split
      · split
        · exact h
        · exact h.startFormation _
      · exact h
    all_goals exact h

/-! ### Received frames (R78 to R80, R86) -/

theorem State.secureExact.consume (h : s.secureExact) (f : Frame) : (s.consume f).secureExact := by
  unfold State.consume
  cases f.kind with
  | reform | hold => exact h
  | roll => exact h.takeRoll f
  | tally => exact h.takeTally f
  | doorcmd => exact h.takeDoorcmd f
  | doorstat => exact h.takeDoorstat f
  | heatbid => exact h.of_view (s.takeHeatbid_secureView f)

theorem State.secureExact.takeHead (h : s.secureExact) (f : Frame) (rest : List Frame) :
    (s.takeHead f rest).secureExact := by
  have fallen : ((s.setRxp { s.rxp with queue := rest }).noteFall rest.length).secureExact := h.of_view (by simp)
  unfold State.takeHead
  dsimp only
  split
  · exact fallen.consume f
  · exact fallen.of_view rfl

theorem State.secureExact.endReception (h : s.secureExact) (r : Reception) : (s.endReception r).secureExact := by
  unfold State.endReception State.routeFrame
  split
  case h_2 => exact h.of_view rfl
  case h_1 f _ =>
    split
    · exact h.of_view rfl
    · split
      · have counted : (s.count .framesReceived).secureExact := h.of_view rfl
        exact (counted.sight f).of_view (State.enqueue_secureView _ f)
      · exact h.of_view rfl

/-! ### End links (R6 to R10) -/

theorem State.secureExact.reportAdjacency (h : s.secureExact) : s.reportAdjacency.secureExact := by
  by_cases start : s.cc.formState = .start
  · rw [s.reportAdjacency_start start]
    exact h
  · rw [s.reportAdjacency_running start]
    exact h.startFormation _

theorem State.secureExact.arriveBeacon (h : s.secureExact) (e : CoachEnd) (bytes : List Byte) :
    (s.arriveBeacon e bytes).secureExact := by
  unfold State.arriveBeacon State.takeBeacon
  split
  case h_2 => exact h.of_view rfl
  case h_1 n _ =>
    have paired : (s.setEnd e ((s.endLink e).pair n s.now)).secureExact := h.of_view (by simp)
    dsimp only
    split
    · exact paired
    · exact paired.reportAdjacency

theorem State.secureExact.receiveChars (h : s.secureExact) (e : CoachEnd) (chars : List LineChar) :
    (s.receiveChars e chars).secureExact := by
  have received {t : State} (ht : t.secureExact) (c : LineChar) : (t.receiveChar e c).secureExact := by
    unfold State.receiveChar
    split
    · exact ht
    · dsimp only
      split
      · exact State.secureExact.arriveBeacon (ht.of_view (by simp)) _ _
      · exact ht.of_view (by simp)
  unfold State.receiveChars
  induction chars generalizing s with
  | nil => exact h
  | cons c cs ih => exact ih (received h c)

/-! ### CAB requests (R21, R38, R173) -/

/-- The SOLO table takes the place of the table while doors-secure is off (R38). -/
theorem State.secureExact.writeSoloTable (h : s.secureExact) (solo : s.cc.formState = .solo) :
    s.writeSoloTable.secureExact := by
  have out : s.cc.formState ≠ .formed := fun formed => nomatch solo.symm.trans formed
  exact h.outside out rfl out h.1

theorem State.secureExact.acceptCab (h : s.secureExact) (claim : Bool) : (s.acceptCab claim).secureExact := by
  have claimed (cab : OwnCab) : (s.setCc { s.cc with ownCab := cab }).secureExact := h.setCc rfl rfl rfl
  unfold State.acceptCab
  split
  case h_1 solo => exact ((claimed .active).writeSoloTable solo).of_view rfl
  case h_2 solo => exact (claimed .noClaim).writeSoloTable solo
  all_goals exact (claimed _).startFormation _

theorem State.secureExact.cabRequest (h : s.secureExact) (code : Byte) : (s.cabRequest code).1.secureExact := by
  unfold State.cabRequest
  split
  · exact h
  · split
    · exact h
    · split
      · exact h
      · split
        · exact h
        · exact h.acceptCab _

end Kept

end Sys2Proof.Machine
end

section
/-! The settled statement about doors-secure (R28, R141, R142): every command keeps it exact. -/

namespace Sys2Proof.Machine

/-! ### When a command acts (R169; log entries 1 and 2) -/

/-- The state of an outcome, if it is one, keeps doors-secure exact. -/
def KeepsSecure (s : State) (o : Host.Outcome State Fault Refusal) : Prop :=
  ∀ t, o = .next t → s.secureExact → t.secureExact

theorem keepsSecure_next {s t : State} (keeps : s.secureExact → t.secureExact) : KeepsSecure s (.next t) := by
  intro u next
  exact Host.Outcome.next.inj next ▸ keeps

/-- An event of the node's own whose act keeps doors-secure exact at its occasion. -/
theorem keepsSecure_at {s : State} {o : Option Time} {act : State → State}
    (keeps : ∀ t, o = some t → (s.advanceTo t).secureExact → (act (s.advanceTo t)).secureExact) :
    KeepsSecure s (.next (s.onOccasion o act)) := by
  refine keepsSecure_next fun h => ?_
  obtain same | ⟨t, occasion, -, acts⟩ := s.onOccasion_cases o act
  · rwa [same]
  · rw [acts]
    exact keeps t occasion (h.of_view rfl)

theorem keepsSecure_occasion {s : State} {o : Option Time} {act : State → State}
    (keeps : ∀ t : State, t.secureExact → (act t).secureExact) : KeepsSecure s (.next (s.onOccasion o act)) :=
  keepsSecure_at fun _ _ => keeps _

theorem keepsSecure_service {s t : State} {act : State → State} (pin : t.secureView = s.secureView)
    (keeps : ∀ t : State, t.secureExact → (act t).secureExact) : KeepsSecure s (.next (t.inService act)) := by
  refine keepsSecure_next fun h => ?_
  cases hr : t.inReset
  · rw [t.inService_running act hr]
    exact keeps t (h.of_view pin)
  · rw [t.inService_inReset act hr]
    exact h.of_view pin

theorem keepsSecure_request {s : State} {i : Instr} {act : State → State × List Byte}
    (keeps : ∀ t : State, t.secureExact → (act t).1.secureExact) : KeepsSecure s (.next (s.onRequest i act)) := by
  have taken (t : State) (h : t.secureExact) : (t.takeRequest act).secureExact := (keeps t h).of_view rfl
  refine keepsSecure_next fun h => ?_
  obtain same | acts | acts := s.onRequest_cases i act
  · rwa [same]
  · rw [acts]
    exact taken s h
  · rw [acts]
    exact taken _ (h.of_view rfl)

/-- A request of the port that reads, or writes the port alone. -/
theorem keepsSecure_portRequest {s : State} {i : Instr} {act : State → State × List Byte}
    (port : ∀ t : State, (act t).1.secureView = t.secureView) : KeepsSecure s (.next (s.onRequest i act)) :=
  keepsSecure_request fun t h => h.of_view (port t)

/-! ### Every command -/

section Commands

variable (s : State)

/-- In reset and at release doors-secure is off in START (R40, R146). -/
theorem State.secureExact_atStart {t : State} (start : t.cc.formState = .start) (ordering : t.cc.ordering = none)
    (off : t.dcu.secureOn = false) : t.secureExact :=
  (State.secureExact_notFormed fun formed => nomatch start.symm.trans formed).mpr ⟨.of_none ordering, off⟩

theorem execExternalResetAssert_keepsSecure : KeepsSecure s (execExternalResetAssert s) := by
  refine keepsSecure_next fun h => ?_
  split
  · exact h
  · exact State.secureExact_atStart rfl rfl rfl

/-- The computation of a fragment starts at the gather timeout, in GATHER (R29). -/
theorem execGatherTimeout_keepsSecure : KeepsSecure s (execGatherTimeout s) := by
  refine keepsSecure_at fun t occasion h => ?_
  unfold State.gatherOccasion at occasion
  split at occasion
  case isTrue gather => exact h.startOrdering gather true
  case isFalse => nomatch occasion

/-- A formation fails at the tally timeout, in TALLY (R35). -/
theorem execTallyTimeout_keepsSecure : KeepsSecure s (execTallyTimeout s) := by
  refine keepsSecure_at fun t occasion h => ?_
  unfold State.tallyOccasion at occasion
  split at occasion
  case isTrue tally => exact h.failFormation tally _
  case isFalse => nomatch occasion

theorem execTallyRepeat_keepsSecure : KeepsSecure s (execTallyRepeat s) := by
  refine keepsSecure_occasion fun t h => ?_
  split
  · exact h.of_view rfl
  · exact h

/-- A silent member stays in the table, and its door status as it is (R51). -/
theorem execMemberSilent_keepsSecure (p : Nat) : KeepsSecure s (execMemberSilent p s) := by
  refine keepsSecure_occasion fun t h => ?_
  have silenced := h.setTable (t.cc.table.silence p) (ConsistTable.silence_members _ p) rfl
  exact silenced.of_view rfl

theorem execCarrierOnset_keepsSecure : KeepsSecure s (execCarrierOnset s) := by
  refine keepsSecure_service rfl fun t h => h.of_view ?_
  split <;> rfl

theorem execFrameSent_keepsSecure : KeepsSecure s (execFrameSent s) := by
  refine keepsSecure_occasion fun t h => h.of_view ?_
  split
  · exact State.giveResult_secureView _ _ _
  · rfl

theorem execJamEnd_keepsSecure : KeepsSecure s (execJamEnd s) := by
  refine keepsSecure_occasion fun t h => h.of_view ?_
  split
  · exact State.afterJam_secureView _ _
  · rfl

theorem execRetryAttempt_keepsSecure : KeepsSecure s (execRetryAttempt s) := by
  refine keepsSecure_occasion fun t h => h.of_view ?_
  split
  · exact t.attempt_secureView _
  · rfl

/-- The end of the carrier of other nodes ends a reception (R77, R78). -/
theorem execFrameArrival_keepsSecure (r : Reception) : KeepsSecure s (execFrameArrival r s) := by
  unfold execFrameArrival
  split
  case isFalse => exact keepsSecure_next id
  case isTrue =>
    refine keepsSecure_service rfl fun t h => ?_
    dsimp only
    split
    · refine State.secureExact.endReception ?_ r
      exact h.of_view rfl
    · exact h.of_view rfl

theorem execFrameTake_keepsSecure : KeepsSecure s (execFrameTake s) := by
  refine keepsSecure_occasion fun t h => ?_
  split
  · exact h.takeHead _ _
  · exact h

theorem execRawLeafInputChange_keepsSecure (i : Nat) (input : LeafInput) (level : Bool) :
    KeepsSecure s (execRawLeafInputChange i input level s) := by
  refine keepsSecure_service rfl fun t h => h.of_view ?_
  split <;> rfl

theorem execLeafInputFiltered_keepsSecure (i : Nat) (input : LeafInput) :
    KeepsSecure s (execLeafInputFiltered i input s) := by
  refine keepsSecure_occasion fun t h => ?_
  split
  case h_1 => exact h.of_view rfl
  case h_2 => exact h.takeObChange _
  case h_3 => exact h

theorem execLockComplete_keepsSecure (i : Nat) : KeepsSecure s (execLockComplete i s) := by
  refine keepsSecure_occasion fun t h => ?_
  split
  · exact (h.putLeaf _ _).settleLeaves
  · exact h

theorem execUnlockFault_keepsSecure (i : Nat) : KeepsSecure s (execUnlockFault i s) := by
  refine keepsSecure_occasion fun t h => ?_
  split
  · exact h.faultLeaf _ _
  · exact h

theorem execLeafRecovery_keepsSecure (i : Nat) : KeepsSecure s (execLeafRecovery i s) := by
  refine keepsSecure_occasion fun t h => ?_
  split
  · exact State.secureExact.settleLeaves (h.of_view rfl)
  · exact h

theorem execAllocationEnd_keepsSecure : KeepsSecure s (execAllocationEnd s) := by
  refine keepsSecure_service rfl fun t h => h.of_view ?_
  split
  · exact t.endAllocation_secureView _
  · rfl

theorem execUnknownRequest_keepsSecure (kind : Byte) : KeepsSecure s (execUnknownRequest kind s) := by
  unfold execUnknownRequest
  split
  · exact keepsSecure_request fun t h => h
  · refine keepsSecure_next fun h => h.of_view ?_
    unfold State.clockByte
    split <;> rfl

theorem execChipSelectRise_keepsSecure : KeepsSecure s (execChipSelectRise s) := by
  unfold execChipSelectRise
  split
  · exact keepsSecure_service rfl fun t h => h.of_view rfl
  · exact keepsSecure_next id

theorem execChipSelectFall_keepsSecure : KeepsSecure s (execChipSelectFall s) := by
  unfold execChipSelectFall
  split
  · exact keepsSecure_next id
  · exact keepsSecure_service rfl fun t h => h.of_view rfl

theorem execResponseReady_keepsSecure : KeepsSecure s (execResponseReady s) := by
  refine keepsSecure_service rfl fun t h => h.of_view ?_
  split <;> rfl

/-- Every command keeps doors-secure exact: those of the doors and of formation evaluate it where its condition
changes, the others leave the secure view. -/
theorem exec_keepsSecure (i : Instr) : KeepsSecure s (exec i s) := by
  cases i with
  | externalResetAssert => exact execExternalResetAssert_keepsSecure s
  | externalResetRelease pins => exact keepsSecure_next fun _ => State.secureExact_atStart rfl rfl rfl
  | rawContactChange => exact keepsSecure_service rfl fun t h => h.of_view (t.setEnd_secureView _ _)
  | debouncedContactActive | endBeaconSend =>
    exact keepsSecure_occasion fun t h => h.of_view (t.setEnd_secureView _ _)
  | debouncedContactLost | beaconLoss =>
    exact keepsSecure_occasion fun t h => State.secureExact.reportAdjacency (h.of_view (t.setEnd_secureView _ _))
  | endBeaconArrival e chars => exact keepsSecure_service rfl fun t h => h.receiveChars e chars
  | faultyReception => exact keepsSecure_occasion fun t h => h.of_view (t.endFaulty_secureView _)
  | tstartExpiry => exact keepsSecure_occasion fun t h => h.startFormation _
  | rollRepeat => exact keepsSecure_occasion fun t h => State.secureExact.renewOwnRecord (h.of_view rfl)
  | gatherTimeout => exact execGatherTimeout_keepsSecure s
  | orderingEnd => exact keepsSecure_service rfl fun t h => h.endOrdering
  | tallyRepeat => exact execTallyRepeat_keepsSecure s
  | tallyTimeout => exact execTallyTimeout_keepsSecure s
  | memberSilent p => exact execMemberSilent_keepsSecure s p
  | reform => exact keepsSecure_request fun t h => h.startFormation _
  | cabClaim code | cabRelease code => exact keepsSecure_request fun t h => h.cabRequest code
  | transmitTake => exact keepsSecure_occasion fun t h => h.of_view t.takeCandidate_secureView
  | breakthroughEligible => exact keepsSecure_occasion fun t h => h
  | carrierOnset => exact execCarrierOnset_keepsSecure s
  | frameSent => exact execFrameSent_keepsSecure s
  | collision | backoffExpiry => exact keepsSecure_occasion fun t h => h.of_view rfl
  | jamEnd => exact execJamEnd_keepsSecure s
  | retryAttempt => exact execRetryAttempt_keepsSecure s
  | lineReset => exact keepsSecure_request fun t h => h.of_view rfl
  | frameArrival r => exact execFrameArrival_keepsSecure s r
  | frameTake => exact execFrameTake_keepsSecure s
  | holdResend | ownHoldExpiry | holdExpiry => exact keepsSecure_occasion fun t h => h.of_view rfl
  | aMatch i => exact keepsSecure_occasion fun t h => (h.setOtb _).takeAMatch i
  | bMatch i => exact keepsSecure_occasion fun t h => (h.setOtb _).takeBMatch i
  | pwmCompareA | pwmPeriodEnd => exact keepsSecure_occasion fun t h => h.of_view rfl
  | rawLeafInputChange i input level => exact execRawLeafInputChange_keepsSecure s i input level
  | leafInputFiltered i input => exact execLeafInputFiltered_keepsSecure s i input
  | lockComplete i => exact execLockComplete_keepsSecure s i
  | unlockFault i => exact execUnlockFault_keepsSecure s i
  | leafRecovery i => exact execLeafRecovery_keepsSecure s i
  | isolateOn leaf onOff | isolateOff leaf onOff =>
    exact keepsSecure_request fun t h => h.isolateRequest leaf onOff
  | doorIssueRelease action side lo hi | doorIssueClose action side lo hi =>
    exact keepsSecure_request fun t h => h.doorIssue action side lo hi
  | doorcmdRepeat seq => exact keepsSecure_occasion fun t h => h.of_view (t.repeatCopy_secureView seq)
  | doorstatPeriod => exact keepsSecure_occasion fun t h => h.of_view t.takeDoorstatExpiry_secureView
  | doorstatStale => exact keepsSecure_occasion fun t h => h.setDcu_evaluated _
  | heatDemand channel frost comfort =>
    exact keepsSecure_request fun t h => h.of_view (t.heatDemandRequest_secureView channel frost comfort)
  | supplyOffer offer => exact keepsSecure_request fun t h => h.of_view (t.supplyOfferRequest_secureView offer)
  | heatbidPeriod => exact keepsSecure_occasion fun t h => h.of_view rfl
  | bidStale | settleExpiry => exact keepsSecure_occasion fun t h => h.of_view (State.triggerAllocation_secureView _)
  | allocationEnd => exact execAllocationEnd_keepsSecure s
  | holdOverExpiry => exact keepsSecure_occasion fun t h => h.of_view (State.applyGrant_secureView _ _)
  | status | straps => exact keepsSecure_request fun t h => h
  | consistRead | noticeTake | counterRead | counterDecrement =>
    exact keepsSecure_portRequest fun t => by split <;> rfl
  | unknownRequest kind => exact execUnknownRequest_keepsSecure s kind
  | chipSelectRise => exact execChipSelectRise_keepsSecure s
  | responseReady => exact execResponseReady_keepsSecure s
  | chipSelectFall => exact execChipSelectFall_keepsSecure s

end Commands

/-- Settles O9: by the command at the front of the queue, or by the node's own time on an empty queue. -/
theorem secureExactKept : Obligations.SecureExactKept := by
  intro s t h next
  unfold step at next
  split at next
  case h_1 c rest _ => exact exec_keepsSecure { s with pending := rest } c t next h
  case h_2 =>
    obtain rfl := Host.Outcome.next.inj next
    refine h.of_view ?_
    unfold State.idle
    split <;> rfl

end Sys2Proof.Machine
end

section
/-! SUPPORT. DOOR_ISSUE: the dispatcher's arms of the door commands, the checks in their order, and the state in which
an issue is scheduled (R128, R129). -/

namespace Sys2Proof.Machine

/-! ### The dispatcher, for the door commands -/

theorem exec_doorIssueRelease (action side lo hi : Byte) (s : State) :
    exec (.doorIssueRelease action side lo hi) s = execDoorIssueRelease action side lo hi s := rfl

theorem exec_doorIssueClose (action side lo hi : Byte) (s : State) :
    exec (.doorIssueClose action side lo hi) s = execDoorIssueClose action side lo hi s := rfl

theorem exec_doorcmdRepeat (seq : Byte) (s : State) : exec (.doorcmdRepeat seq) s = execDoorcmdRepeat seq s := rfl

theorem exec_doorstatPeriod (s : State) : exec .doorstatPeriod s = execDoorstatPeriod s := rfl

theorem exec_doorstatStale (p : Nat) (s : State) : exec (.doorstatStale p) s = execDoorstatStale p s := rfl

/-- Either row of the DOOR_ISSUE request acts on its bytes (log entry 19). -/
theorem exec_doorIssue_open (s : State) (action side lo hi : Byte) (i : Instr) (hp : s.portOpen)
    (hi' : i = .doorIssueRelease action side lo hi ∨ i = .doorIssueClose action side lo hi) :
    exec i s = .next ((s.doorIssue action side lo hi).1.setPort
      ((s.doorIssue action side lo hi).1.port.prepare (s.doorIssue action side lo hi).1.now
        (s.doorIssue action side lo hi).2)) := by
  obtain ⟨hr, hk⟩ := hp
  obtain rfl | rfl := hi'
  · rw [exec_doorIssueRelease, execDoorIssueRelease, State.onRequest_open _ _ _ hr hk]
  · rw [exec_doorIssueClose, execDoorIssueClose, State.onRequest_open _ _ _ hr hk]

theorem exec_doorIssue_refused (s : State) (action side lo hi : Byte) (i : Instr) (r : Result) (hp : s.portOpen)
    (hi' : i = .doorIssueRelease action side lo hi ∨ i = .doorIssueClose action side lo hi)
    (refused : s.doorIssue action side lo hi = (s, answer r)) : exec i s = .next (s.answered [r.code]) := by
  rw [exec_doorIssue_open s action side lo hi i hp hi', refused]
  rfl

/-! ### The action and side bytes (R184) -/

theorem doorActionOf_code (a : DoorAction) : doorActionOf (doorActionCode a) = some a := by
  cases a <;> rfl

theorem doorSideOf_code (d : DoorSide) : doorSideOf (doorSideCode d) = some d := by
  cases d <;> rfl

theorem doorActionOf_isSome_iff (b : Byte) : (doorActionOf b).isSome = true ↔ b = 0x01 ∨ b = 0x02 := by
  unfold doorActionOf
  split
  case isTrue release => simp [release]
  case isFalse other => split <;> simp_all

theorem doorActionOf_release_iff (b : Byte) : doorActionOf b = some .release ↔ b = 0x01 := by
  unfold doorActionOf
  split
  case isTrue release => simp [release]
  case isFalse other => split <;> simp_all

theorem doorSideOf_isSome_iff (b : Byte) : (doorSideOf b).isSome = true ↔ b = 0x01 ∨ b = 0x02 ∨ b = 0x03 := by
  unfold doorSideOf
  split
  case isTrue left => simp [left]
  case isFalse other =>
    split
    case isTrue right => simp [right]
    case isFalse other => split <;> simp_all

/-! ### The checks in their order (R128) -/

section Checks

variable (s : State) (action side lo hi : Byte)

theorem State.doorIssue_invalid (h : doorActionOf action = none ∨ doorSideOf side = none) :
    s.doorIssue action side lo hi = (s, answer .badRange) := by
  unfold State.doorIssue
  split
  case h_1 a d ha hd => rw [ha, hd] at h; simp at h
  case h_2 => rfl

section Valid

variable {action side} {a : DoorAction} {d : DoorSide}

theorem State.doorIssue_notCab (ha : doorActionOf action = some a) (hd : doorSideOf side = some d)
    (cab : s.straps.coachType.isCab = false) : s.doorIssue action side lo hi = (s, answer .notCabType) := by
  simp [State.doorIssue, ha, hd, cab]

/-- A RELEASE that fails a check of its own. -/
theorem State.doorIssue_releaseRefused (r : Result) (ha : doorActionOf action = some .release)
    (hd : doorSideOf side = some d) (cab : s.straps.coachType.isCab = true)
    (fails : s.releaseChecks lo.toNat hi.toNat = some r) :
    s.doorIssue action side lo hi = (s, answer r) := by
  simp [State.doorIssue, ha, hd, cab, fails]

/-- What has passed the checks 1 to 5 is issued when the schedule has room. -/
theorem State.doorIssue_passed (ha : doorActionOf action = some a) (hd : doorSideOf side = some d)
    (cab : s.straps.coachType.isCab = true)
    (passes : a = .release → s.releaseChecks lo.toNat hi.toNat = none) :
    s.doorIssue action side lo hi =
      if s.dcu.schedule.length < 4 then s.issue (s.issueCommand a d lo.toNat hi.toNat)
      else (s, answer .queueFull) := by
  have checks : (if a = .release then s.releaseChecks lo.toNat hi.toNat else none) = none := by
    split
    case isTrue release => exact passes release
    case isFalse => rfl
  simp [State.doorIssue, ha, hd, cab, checks]

end Valid

theorem State.releaseChecks_notFormed (f t : Nat) (out : s.cc.formState ≠ .formed) :
    s.releaseChecks f t = some .notFormed := by
  simp [State.releaseChecks, s.isFormed_eq_false_iff.mpr out]

theorem State.releaseChecks_notActive (f t : Nat) (formed : s.cc.formState = .formed)
    (cab : s.cc.ownCab ≠ .active) : s.releaseChecks f t = some .notActiveCab := by
  simp [State.releaseChecks, s.isFormed_eq_true_iff.mpr formed, cab]

theorem State.releaseChecks_range (f t : Nat) (formed : s.cc.formState = .formed) (cab : s.cc.ownCab = .active) :
    s.releaseChecks f t = if 1 ≤ f ∧ f ≤ t ∧ t ≤ s.cc.table.size then none else some .badRange := by
  simp [State.releaseChecks, s.isFormed_eq_true_iff.mpr formed, cab]

end Checks

/-! ### The issue (R129) -/

/-- The frame of an issue, built now (R129 step 4). -/
def State.issueFrame (s : State) (c : DoorCmd) : Frame := s.buildFrame .doorcmd (doorCmdPayload c)

/-- The entry with which an issue joins the schedule (R132). -/
def State.issueEntry (s : State) (c : DoorCmd) : Issue :=
  { frame := s.issueFrame c, action := c.action, seq := c.seq, ended := 0, phase := .inStore }

/-- The state in which copy 1 waits and the issue has joined the schedule (R129 steps 5 and 6). -/
def State.scheduled (s : State) (c : DoorCmd) : State :=
  (s.setLau { s.lau with safety := s.lau.safety ++ [s.issueFrame c] }).setDcu
    { s.dcu with issueSeq := c.seq, schedule := s.dcu.schedule ++ [s.issueEntry c] }

theorem State.issue_stored (s : State) (c : DoorCmd) (room : s.lau.safety.length < 6) :
    s.issue c = ((s.scheduled c).applyIssue c, answer .ok ++ [c.seq]) := by
  unfold State.issue
  dsimp only
  rw [s.lau.submitDoorcmd_stored _ room]
  rfl

theorem State.issue_full (s : State) (c : DoorCmd) (full : 6 ≤ s.lau.safety.length) :
    s.issue c = (s, answer .queueFull) := by
  unfold State.issue
  dsimp only
  rw [s.lau.submitDoorcmd_full _ full]

/-- An issue that finds no room in the schedule or in the SAFETY queue. -/
theorem State.doorIssue_noRoom (s : State) (action side lo hi : Byte) (a : DoorAction) (d : DoorSide)
    (ha : doorActionOf action = some a) (hd : doorSideOf side = some d) (cab : s.straps.coachType.isCab = true)
    (passes : a = .release → s.releaseChecks lo.toNat hi.toNat = none)
    (full : 4 ≤ s.dcu.schedule.length ∨ 6 ≤ s.lau.safety.length) :
    s.doorIssue action side lo hi = (s, answer .queueFull) := by
  rw [s.doorIssue_passed lo hi ha hd cab passes]
  split
  case isTrue room => exact s.issue_full _ (full.resolve_left (Nat.not_le.mpr room))
  case isFalse => rfl

end Sys2Proof.Machine
end

section
/-! The settled statements about DOOR_ISSUE (R128 to R132, R184). -/

namespace Sys2Proof.Machine

/-! ### Refused issues (R128) -/

/-- Bytes that hold encodings name an action and a side. -/
theorem doorBytes_valid (action side : Byte)
    (valid : (action = 0x01 ∨ action = 0x02) ∧ (side = 0x01 ∨ side = 0x02 ∨ side = 0x03)) :
    ∃ a d, doorActionOf action = some a ∧ doorSideOf side = some d := by
  obtain ⟨ha, hd⟩ := valid
  obtain ⟨a, ha⟩ := Option.isSome_iff_exists.mp ((doorActionOf_isSome_iff action).mpr ha)
  obtain ⟨d, hd⟩ := Option.isSome_iff_exists.mp ((doorSideOf_isSome_iff side).mpr hd)
  exact ⟨a, d, ha, hd⟩

theorem doorBytes_invalid (action side : Byte)
    (invalid : ¬((action = 0x01 ∨ action = 0x02) ∧ (side = 0x01 ∨ side = 0x02 ∨ side = 0x03))) :
    doorActionOf action = none ∨ doorSideOf side = none := by
  rw [← doorActionOf_isSome_iff, ← doorSideOf_isSome_iff] at invalid
  cases ha : doorActionOf action with
  | none => exact .inl rfl
  | some a =>
    cases hd : doorSideOf side with
    | none => exact .inr rfl
    | some d => exact absurd ⟨by rw [ha]; rfl, by rw [hd]; rfl⟩ invalid

/-- Settles O51: each check of R128 under the passing of those before it. -/
theorem doorIssueIsChecked : Obligations.DoorIssueIsChecked := by
  intro s action side lo hi i opened row validBytes rangeOk releaseOk
  have refused (r : Result) := exec_doorIssue_refused s action side lo hi i r opened row
  refine ⟨?invalid, ?notCab, ?release, ?noRoom⟩
  case invalid =>
    intro invalid
    exact refused .badRange (s.doorIssue_invalid action side lo hi (doorBytes_invalid action side invalid))
  case notCab =>
    intro valid cab
    obtain ⟨a, d, ha, hd⟩ := doorBytes_valid action side valid
    exact refused .notCabType (s.doorIssue_notCab lo hi ha hd cab)
  case release =>
    intro valid cab release
    obtain ⟨-, d, -, hd⟩ := doorBytes_valid action side valid
    have ha := (doorActionOf_release_iff action).mpr release
    have fails (r : Result) (h : s.releaseChecks lo.toNat hi.toNat = some r) :=
      refused r (s.doorIssue_releaseRefused lo hi r ha hd cab h)
    refine ⟨fun out => ?_, fun formed notActive => ?_, fun formed active outOfRange => ?_⟩
    · exact fails .notFormed (s.releaseChecks_notFormed _ _ out)
    · exact fails .notActiveCab (s.releaseChecks_notActive _ _ formed notActive)
    · exact fails .badRange ((s.releaseChecks_range _ _ formed active).trans (if_neg outOfRange))
  case noRoom =>
    intro valid cab passes full
    obtain ⟨a, d, ha, hd⟩ := doorBytes_valid action side valid
    refine refused .queueFull (s.doorIssue_noRoom action side lo hi a d ha hd cab ?_ full)
    rintro rfl
    obtain ⟨formed, active, inRange⟩ := passes ((doorActionOf_release_iff action).mp ha)
    exact (s.releaseChecks_range _ _ formed active).trans (if_pos inRange)

/-! ### What acting on the own leaves keeps of an issue (R125, R131, R138) -/

/-- A frame of another kind stays in a queue with a supersede rule. -/
theorem mem_superseding_of_mem {cap : Nat} {q : List Frame} {f g : Frame} (mem : f ∈ q) (other : f.kind ≠ g.kind) :
    f ∈ (superseding cap q g).1 := by
  have replaced : f ∈ replaceKind g.kind g q := by
    induction q with
    | nil => nomatch mem
    | cons x xs ih =>
      unfold replaceKind
      obtain rfl | later := List.mem_cons.mp mem
      · rw [if_neg other]
        exact List.mem_cons_self
      · split
        · exact List.mem_cons_of_mem _ later
        · exact List.mem_cons_of_mem _ (ih later)
  unfold superseding
  split
  · exact replaced
  · split
    · exact List.mem_append_left _ mem
    · exact mem

/-- From a state to another what an issue has written, and the blocks that it leaves, stay. -/
structure IssueKept (s u : State) : Prop where
  cc : u.cc = s.cc
  hsu : u.hsu = s.hsu
  rxp : u.rxp = s.rxp
  lhu : u.lhu = s.lhu
  issueSeq : u.dcu.issueSeq = s.dcu.issueSeq
  schedule : u.dcu.schedule = s.dcu.schedule
  safety : ∀ f ∈ s.lau.safety, f.kind = .doorcmd → f ∈ u.lau.safety

theorem IssueKept.refl (s : State) : IssueKept s s := ⟨rfl, rfl, rfl, rfl, rfl, rfl, fun _ h _ => h⟩

/-- A change of the summaries submits a DOORSTAT at most, which takes no DOORCMD's place (R61, R138). -/
theorem State.settleLeaves_issueKept (s : State) : IssueKept s s.settleLeaves := by
  have evaluated (t : State) (kept : IssueKept s t) : IssueKept s t.evalDoorsSecure := by
    obtain ⟨cc, hsu, rxp, lhu, issueSeq, schedule, safety⟩ := kept
    have dcu := t.evalDoorsSecure_dcu
    refine ⟨by simp [cc], by simp [hsu], by simp [rxp], by simp [lhu], ?_, ?_, by simpa using safety⟩
    · rw [dcu]
      exact issueSeq
    · rw [dcu]
      exact schedule
  unfold State.settleLeaves
  dsimp only
  split
  · exact .refl s
  · refine evaluated _ ?_
    split
    · refine ⟨rfl, rfl, rfl, rfl, rfl, rfl, fun f mem kind => ?_⟩
      exact mem_superseding_of_mem mem (by rw [kind]; nofun)
    · exact ⟨rfl, rfl, rfl, rfl, rfl, rfl, fun _ mem _ => mem⟩

theorem State.passLeaves_settled_issueKept (s : State) (sides : List Side) (passage : Leaf → Leaf × ChannelOrder) :
    IssueKept s (s.passLeaves sides passage).settleLeaves := by
  obtain ⟨cc, hsu, rxp, lhu, issueSeq, schedule, safety⟩ := (s.passLeaves sides passage).settleLeaves_issueKept
  exact ⟨cc, hsu, rxp, lhu, issueSeq, schedule, safety⟩

theorem State.closeLeaves_issueKept (s : State) (sides : List Side) : IssueKept s (s.closeLeaves sides) := by
  rw [s.closeLeaves_eq sides]
  exact s.passLeaves_settled_issueKept sides Leaf.close

theorem State.releaseLeaves_issueKept (s : State) (sides : List Side) (n : FormationNumber) :
    IssueKept s (s.releaseLeaves sides n) := by
  by_cases accepted : s.isFormed = true ∧ n = s.cc.number
  · obtain ⟨formed, number⟩ := accepted
    rw [s.releaseLeaves_eq sides n formed number]
    exact s.passLeaves_settled_issueKept sides Leaf.release
  · rw [State.releaseLeaves, if_neg accepted]
    exact .refl s

theorem State.applyIssue_issueKept (s : State) (c : DoorCmd) : IssueKept s (s.applyIssue c) := by
  unfold State.applyIssue
  split
  · split
    · exact s.releaseLeaves_issueKept _ _
    · exact .refl s
  · split
    · split
      · exact s.closeLeaves_issueKept _
      · exact .refl s
    · exact s.closeLeaves_issueKept _

/-! ### The own leaves (R131) -/

/-- The leaf records after a command at the leaves are those of its passage. -/
theorem State.closeLeaves_dlc (s : State) (sides : List Side) :
    (s.closeLeaves sides).dlc = (s.passLeaves sides Leaf.close).dlc := by
  rw [s.closeLeaves_eq sides, State.settleLeaves_dlc]

theorem State.releaseLeaves_dlc (s : State) (sides : List Side) (formed : s.cc.formState = .formed) :
    (s.releaseLeaves sides s.cc.number).dlc = (s.passLeaves sides Leaf.release).dlc := by
  rw [s.releaseLeaves_eq sides _ (s.isFormed_eq_true_iff.mpr formed) rfl, State.settleLeaves_dlc]

theorem State.inRange_eq_true_iff (s : State) (c : DoorCmd) :
    s.inRange c = true ↔ c.rangeFrom ≤ s.ownPosition ∧ s.ownPosition ≤ c.rangeTo := by
  simp [State.inRange]

/-- A RELEASE in FORMED acts on the leaves of its sides when the own position is in its range. -/
theorem State.applyIssue_release_dlc (s : State) (c : DoorCmd) (action : c.action = .release)
    (formed : s.cc.formState = .formed) :
    ((s.scheduled c).applyIssue c).dlc =
      if c.rangeFrom ≤ s.ownPosition ∧ s.ownPosition ≤ c.rangeTo then
        (s.releaseLeaves (s.sidesOf c.side) s.cc.number).dlc
      else s.dlc := by
  have acts : (s.scheduled c).applyIssue c =
      if (s.scheduled c).isFormed = true ∧ (s.scheduled c).inRange c = true then
        (s.scheduled c).releaseLeaves (s.sidesOf c.side) s.cc.number
      else s.scheduled c := by
    unfold State.applyIssue
    rw [action]
    rfl
  have formed' : (s.scheduled c).isFormed = true := s.isFormed_eq_true_iff.mpr formed
  have range : (s.scheduled c).inRange c = true ↔ _ := s.inRange_eq_true_iff c
  rw [acts]
  simp only [formed', range, true_and]
  split
  · exact ((s.scheduled c).releaseLeaves_dlc _ formed).trans (s.releaseLeaves_dlc _ formed).symm
  · rfl

/-- A CLOSE acts on the leaves of its sides in FORMED, when the own position is in its range, and on all leaves
outside FORMED. -/
theorem State.applyIssue_close_dlc (s : State) (c : DoorCmd) (action : c.action = .close) :
    ((s.scheduled c).applyIssue c).dlc =
      if s.cc.formState = .formed then
        if c.rangeFrom ≤ s.ownPosition ∧ s.ownPosition ≤ c.rangeTo then (s.closeLeaves (s.sidesOf c.side)).dlc
        else s.dlc
      else (s.closeLeaves [.one, .two]).dlc := by
  have acts : (s.scheduled c).applyIssue c =
      if (s.scheduled c).isFormed = true then
        if (s.scheduled c).inRange c = true then (s.scheduled c).closeLeaves (s.sidesOf c.side) else s.scheduled c
      else (s.scheduled c).closeLeaves [.one, .two] := by
    unfold State.applyIssue
    rw [action]
    rfl
  have closed (sides : List Side) : ((s.scheduled c).closeLeaves sides).dlc = (s.closeLeaves sides).dlc :=
    ((s.scheduled c).closeLeaves_dlc sides).trans (s.closeLeaves_dlc sides).symm
  have formed : (s.scheduled c).isFormed = true ↔ _ := s.isFormed_eq_true_iff
  have range : (s.scheduled c).inRange c = true ↔ _ := s.inRange_eq_true_iff c
  rw [acts]
  simp only [formed, range]
  split
  · split
    · exact closed _
    · rfl
  · exact closed _

/-! ### Accepted issues (R129, R132) -/

/-- The range of a CLOSE is limited to 1 to L (R129 step 3). -/
theorem State.issueRange_close (s : State) (f t : Nat) :
    s.issueRange .close f t = limitRange (if s.cc.formState = .formed then s.cc.table.size else 32) f t := by
  simp only [State.issueRange, s.isFormed_eq_true_iff]

/-- Copy 1 of an issue with a payload waits in the SAFETY queue, and the issue has joined the schedule (R129). -/
def State.copyQueued (s u : State) (c : DoorCmd) : Prop :=
  ∃ f ∈ u.lau.safety, f.kind = .doorcmd ∧ f.number = s.cc.number ∧ f.position = s.headerPosition .doorcmd
    ∧ f.sender = s.id ∧ f.payload = doorCmdPayload c
    ∧ u.dcu.schedule
      = s.dcu.schedule ++ [{ frame := f, action := c.action, seq := c.seq, ended := 0, phase := .inStore }]

/-- An issue that is taken with room for it. -/
theorem exec_doorIssue_accepted (s : State) (action side lo hi : Byte) (i : Instr) (c : DoorCmd) (hp : s.portOpen)
    (row : i = .doorIssueRelease action side lo hi ∨ i = .doorIssueClose action side lo hi)
    (issued : s.doorIssue action side lo hi = s.issue c) (room : s.lau.safety.length < 6) :
    ∃ u, exec i s = .next u ∧ u.port.response = [0x00, c.seq] ∧ u.dcu.issueSeq = c.seq ∧ s.copyQueued u c
      ∧ u.cc = s.cc ∧ u.hsu = s.hsu ∧ u.rxp = s.rxp ∧ u.lhu = s.lhu
      ∧ u.dlc = ((s.scheduled c).applyIssue c).dlc := by
  obtain ⟨cc, hsu, rxp, lhu, issueSeq, schedule, safety⟩ := (s.scheduled c).applyIssue_issueKept c
  have stored := issued.trans (s.issue_stored c room)
  have waits : s.issueFrame c ∈ (s.scheduled c).lau.safety := List.mem_append_right _ List.mem_cons_self
  refine ⟨_, exec_doorIssue_open s action side lo hi i hp row, ?_⟩
  rw [stored]
  have copy : s.copyQueued ((s.scheduled c).applyIssue c) c :=
    ⟨s.issueFrame c, safety _ waits rfl, rfl, rfl, rfl, rfl, rfl, schedule⟩
  exact ⟨rfl, issueSeq, copy, cc, hsu, rxp, lhu, rfl⟩

/-- Settles O52: the command of each action, scheduled, queued and applied to the own leaves. -/
theorem doorIssueIsSentAndApplied : Obligations.DoorIssueIsSentAndApplied := by
  intro s side lo hi opened cab schedule room seq issuer copyQueued
  refine ⟨?release, ?close⟩
  case release =>
    intro formed active one ordered within
    have passes : s.releaseChecks lo.toNat hi.toNat = none :=
      (s.releaseChecks_range _ _ formed active).trans (if_pos ⟨one, ordered, within⟩)
    have issued := (s.doorIssue_passed (a := .release) lo hi (doorActionOf_code .release) (doorSideOf_code side) cab
      fun _ => passes).trans (if_pos schedule)
    obtain ⟨u, taken, response, issueSeq, copy, cc, hsu, rxp, lhu, dlc⟩ :=
      exec_doorIssue_accepted s _ _ lo hi _ _ opened (.inl rfl) issued room
    rw [s.applyIssue_release_dlc _ rfl formed] at dlc
    refine ⟨u, taken, response, issueSeq, ?_, cc, hsu, rxp, lhu, dlc⟩
    obtain ⟨f, mem, kind, number, position, sender, payload, joined⟩ := copy
    refine ⟨f, mem, kind, number, position, sender, payload.trans ?_, joined⟩
    simp [doorCmdPayload, State.issueCommand, State.issueRange, doorActionCode, seq, issuer]
  case close =>
    intro top clamp range
    have limited : s.issueRange .close lo.toNat hi.toNat = range := s.issueRange_close _ _
    have issued := (s.doorIssue_passed (a := .close) lo hi (doorActionOf_code .close) (doorSideOf_code side) cab
      nofun).trans (if_pos schedule)
    obtain ⟨u, taken, response, issueSeq, copy, cc, hsu, rxp, lhu, dlc⟩ :=
      exec_doorIssue_accepted s _ _ lo hi _ _ opened (.inr rfl) issued room
    rw [s.applyIssue_close_dlc _ rfl] at dlc
    simp only [State.issueCommand, limited] at copy dlc
    exact ⟨u, taken, response, issueSeq, copy, cc, hsu, rxp, lhu, dlc⟩

end Sys2Proof.Machine
end

section
/-! The settled statement about the repeats of an issue and the door status (R132, R137 to R142, R189). -/

namespace Sys2Proof.Machine

/-! ### DOORCMD_REPEAT (R132) -/

/-- The first entry of the schedule with a sequence number, with the entries before and after it, spaces until a
moment. -/
structure State.SpacingIssue (s : State) (pre : List Issue) (i : Issue) (is : List Issue) (t : Time) : Prop where
  schedule : s.dcu.schedule = pre ++ i :: is
  before : ∀ j ∈ pre, j.seq ≠ i.seq
  phase : i.phase = .spacing t

section SpacingIssue

variable {s : State} {pre is : List Issue} {i : Issue} {t : Time}

theorem Issue.spacingFor_other (j : Issue) (seq : Byte) (other : j.seq ≠ seq) : j.spacingFor seq = none := by
  unfold Issue.spacingFor
  split
  · exact if_neg other
  · rfl

theorem State.SpacingIssue.spaces (h : s.SpacingIssue pre i is t) : i.spacingFor i.seq = some t := by
  rw [Issue.spacingFor, h.phase]
  exact if_pos rfl

theorem State.SpacingIssue.others (h : s.SpacingIssue pre i is t) (j : Issue) (hj : j ∈ pre) :
    j.spacingFor i.seq = none :=
  j.spacingFor_other _ (h.before j hj)

theorem State.SpacingIssue.occasion (h : s.SpacingIssue pre i is t) : s.repeatOccasion i.seq = some t := by
  have before : pre.findSome? (fun j => j.spacingFor i.seq) = none := List.findSome?_eq_none_iff.mpr h.others
  rw [State.repeatOccasion, h.schedule, List.findSome?_append, before, Option.none_or, List.findSome?_cons, h.spaces]

theorem State.SpacingIssue.here (h : s.SpacingIssue pre i is t) : (i.spacingFor i.seq).isSome = true := by
  rw [h.spaces]
  rfl

theorem State.SpacingIssue.notHere (h : s.SpacingIssue pre i is t) (j : Issue) (hj : j ∈ pre) :
    (j.spacingFor i.seq).isSome = false := by
  rw [h.others j hj]
  rfl

/-- The entry is the one whose copy is repeated. -/
theorem State.SpacingIssue.find (h : s.SpacingIssue pre i is t) :
    s.dcu.schedule.find? (fun j => (j.spacingFor i.seq).isSome) = some i :=
  List.find?_eq_some_iff_append.mpr ⟨h.here, pre, is, h.schedule, fun j hj => by simp [h.notHere j hj]⟩

/-- The entry is changed in its place. -/
theorem State.SpacingIssue.updateFirst (h : s.SpacingIssue pre i is t) (change : Issue → Option Issue) :
    updateFirst (fun j => (j.spacingFor i.seq).isSome) change s.dcu.schedule
      = pre ++ ((change i).toList ++ is) := by
  rw [h.schedule]
  exact updateFirst_first _ change pre is i h.notHere h.here

/-- A copy that finds room waits (R132). -/
theorem State.SpacingIssue.stored (h : s.SpacingIssue pre i is t) (room : s.lau.safety.length < 6) :
    s.repeatCopy i.seq =
      (s.setLau { s.lau with safety := s.lau.safety ++ [i.frame] }).setDcu
        { s.dcu with schedule := pre ++ { i with phase := .inStore } :: is } := by
  unfold State.repeatCopy
  rw [h.find]
  dsimp only
  rw [h.updateFirst, s.lau.submitDoorcmd_stored _ room]
  rfl

/-- A copy that finds none has ended at once (R132). -/
theorem State.SpacingIssue.skipped (h : s.SpacingIssue pre i is t) (full : 6 ≤ s.lau.safety.length) :
    s.repeatCopy i.seq = s.setDcu { s.dcu with schedule := pre ++ ((i.copyEnded s.now).toList ++ is) } := by
  unfold State.repeatCopy
  rw [h.find]
  dsimp only
  rw [h.updateFirst, s.lau.submitDoorcmd_full _ full]
  rfl

theorem State.SpacingIssue.advanceTo (h : s.SpacingIssue pre i is t) : (s.advanceTo t).SpacingIssue pre i is t :=
  ⟨h.schedule, h.before, h.phase⟩

theorem State.SpacingIssue.exec_eq (h : s.SpacingIssue pre i is t) (hr : s.inReset = false) :
    exec (.doorcmdRepeat i.seq) s = .next ((s.advanceTo t).repeatCopy i.seq) := by
  rw [exec_doorcmdRepeat, execDoorcmdRepeat, h.occasion, State.onOccasion_some _ _ _ hr]

end SpacingIssue

/-! ### The DOORSTAT timer (R138; log entry 30) -/

/-- An expiry that has come is owed after a restart. -/
theorem owedAfter_due (t now : Time) (owed : Option Time) (due : t ≤ now) : owedAfter (some t) owed now = some t :=
  if_pos due

theorem owedAfter_notDue (timer owed : Option Time) (now : Time) (notDue : ∀ t, timer = some t → now < t) :
    owedAfter timer owed now = owed := by
  cases timer with
  | none => rfl
  | some t => exact if_neg (Nat.not_le.mpr (notDue t rfl))

/-- A submission writes the SAFETY queue and the DOORSTAT timer alone. -/
theorem State.submitDoorstat_dcu (s : State) :
    s.submitDoorstat.dcu =
      { s.dcu with
        doorstatTimer := some (s.now + Config.ms 250)
        doorstatOwed := owedAfter s.dcu.doorstatTimer s.dcu.doorstatOwed s.now } := rfl

/-- The expiry taken at a moment: the owed one, or that of the timer. -/
def Dcu.expiresAt (d : Dcu) (now t : Time) : Prop :=
  d.doorstatOwed = some t ∧ (∀ d', d.doorstatTimer = some d' → max now t < d')
    ∨ d.doorstatOwed = none ∧ d.doorstatTimer = some t

theorem Dcu.expiresAt.occasion {s : State} {t : Time} (h : s.dcu.expiresAt s.now t)
    (formed : s.cc.formState = .formed) : s.doorstatOccasion = some t := by
  rw [State.doorstatOccasion, if_pos (s.isFormed_eq_true_iff.mpr formed)]
  obtain ⟨owed, -⟩ | ⟨owed, timer⟩ := h
  · rw [owed, Option.some_or]
  · rw [owed, Option.none_or, timer]

/-- After the take no other expiry has come, so the submission owes none. -/
theorem Dcu.expiresAt.taken {d : Dcu} {now t : Time} (h : d.expiresAt now t) :
    ∃ timer, d.takeDoorstatExpiry = { d with doorstatTimer := timer, doorstatOwed := none }
      ∧ owedAfter timer none (max now t) = none := by
  unfold Dcu.takeDoorstatExpiry
  obtain ⟨owed, later⟩ | ⟨owed, timer⟩ := h
  · rw [if_pos (by rw [owed]; rfl)]
    exact ⟨d.doorstatTimer, rfl, owedAfter_notDue _ _ _ later⟩
  · rw [if_neg (by rw [owed]; nofun)]
    exact ⟨none, by rw [← owed], rfl⟩

/-- DOORSTAT_PERIOD submits the own DOORSTAT and restarts the timer, at the occasion (R138). -/
theorem exec_doorstatPeriod_due (s : State) (t : Time) (hr : s.inReset = false) (formed : s.cc.formState = .formed)
    (h : s.dcu.expiresAt s.now t) :
    exec .doorstatPeriod s = .next
      (((s.advanceTo t).setLau (s.lau.submitDoorstat s.buildDoorstat)).setDcu
        { s.dcu with doorstatTimer := some (max s.now t + Config.ms 250), doorstatOwed := none }) := by
  obtain ⟨timer, taken, owed⟩ := h.taken
  have submitted : ((s.advanceTo t).setDcu s.dcu.takeDoorstatExpiry).submitDoorstat
      = ((s.advanceTo t).setLau (s.lau.submitDoorstat s.buildDoorstat)).setDcu
        { s.dcu with doorstatTimer := some (max s.now t + Config.ms 250), doorstatOwed := none } := by
    rw [taken]
    exact congrArg (fun o => ((s.advanceTo t).setLau (s.lau.submitDoorstat s.buildDoorstat)).setDcu
      { s.dcu with doorstatTimer := some (max s.now t + Config.ms 250), doorstatOwed := o }) owed
  rw [exec_doorstatPeriod, execDoorstatPeriod, h.occasion formed, State.onOccasion_some _ _ _ hr, ← submitted]
  rfl

/-- The own DOORSTAT: the position and both sides' secure flags in train terms (R137). -/
theorem State.buildDoorstat_formed (s : State) (left : Side) (formed : s.cc.formState = .formed)
    (mapping : s.trainLeft = some left) :
    s.buildDoorstat.position = BitVec.ofNat 8 s.ownPosition
      ∧ s.buildDoorstat.payload = [BitVec.ofNat 8 s.ownPosition, flagCode (s.dcu.summary left).secure,
          flagCode (s.dcu.summary left.other).secure] := by
  refine ⟨if_pos (s.isFormed_eq_true_iff.mpr formed), ?_⟩
  rw [State.buildDoorstat, mapping]
  rfl

/-! ### Door status (R139 to R142) -/

/-- The state in which a position's status has gone stale (R140). -/
def State.staleAt (s : State) (p : Nat) : State := s.setDcu (s.dcu.markStale p)

theorem exec_doorstatStale_due (s : State) (p : Nat) (e : DoorStatus) (hr : s.inReset = false)
    (formed : s.cc.formState = .formed)
    (found : s.dcu.doorStatus.find? (fun x => x.position = p && x.fresh) = some e) :
    exec (.doorstatStale p) s = .next ((s.advanceTo (e.receivedAt + Config.ms 750)).staleAt p).evalDoorsSecure := by
  have occasion : s.doorstatStaleOccasion p = some (e.receivedAt + Config.ms 750) := by
    rw [State.doorstatStaleOccasion, if_pos (s.isFormed_eq_true_iff.mpr formed), found]
    rfl
  rw [exec_doorstatStale, execDoorstatStale, occasion, State.onOccasion_some _ _ _ hr]
  rfl

/-- A stale status reports nothing (R141). -/
theorem Dcu.markStale_reportsSecure (d : Dcu) (p : Nat) : (d.markStale p).reportsSecure p = false := by
  simp only [Dcu.reportsSecure, Dcu.markStale, List.any_map, List.any_eq_false, Function.comp_apply]
  intro e _
  split
  case isTrue => simp
  case isFalse other => simp [other]

/-- A position of another node without a fresh and secure status keeps doors-secure off (R141 condition 3). -/
theorem State.doorsSecure_unreported (s : State) (p : Nat) (one : 1 ≤ p) (within : p ≤ s.cc.table.size)
    (other : p ≠ s.ownPosition) (unreported : s.dcu.reportsSecure p = false) : s.doorsSecure = false := by
  have named : p ∈ (List.range s.cc.table.size).map (· + 1) :=
    List.mem_map.mpr ⟨p - 1, List.mem_range.mpr (by omega), by omega⟩
  have fails : ((List.range s.cc.table.size).map (· + 1)).all
      (fun q => q = s.ownPosition || s.dcu.reportsSecure q) = false :=
    List.all_eq_false.mpr ⟨p, named, by simp [other, unreported]⟩
  rw [State.doorsSecure, fails, Bool.and_false]

/-- Doors-secure that is on and whose condition fails goes off with its notice (R142). -/
theorem State.evalDoorsSecure_off (s : State) (fails : s.doorsSecure = false) :
    s.evalDoorsSecure.dcu.secureOn = false
      ∧ (s.dcu.secureOn = true → s.port.notices.length < 16 →
          s.evalDoorsSecure.port.notices = s.port.notices ++ [.doorsSecure false]) := by
  refine ⟨by rw [State.evalDoorsSecure_dcu]; exact fails, fun was room => ?_⟩
  have changes : s.doorsSecure ≠ s.dcu.secureOn := by
    rw [fails, was]
    nofun
  rw [State.evalDoorsSecure, if_neg changes, fails]
  exact State.post_notices _ _ room

/-! ### DOORSTATs taken (R86, R139, R189) -/

@[simp] theorem State.noteFall_dcu (s : State) (after : Nat) : (s.noteFall after).dcu = s.dcu := by
  obtain ⟨lhu, lau, fallen⟩ := s.noteFall_eq after
  rw [fallen, State.setLau_dcu, State.setLhu_dcu]

@[simp] theorem State.noteFall_now (s : State) (after : Nat) : (s.noteFall after).now = s.now := by
  obtain ⟨lhu, lau, fallen⟩ := s.noteFall_eq after
  rw [fallen, State.setLau_now, State.setLhu_now]

/-- A DOORSTAT of the node's number is taken at once, after the occupancy has fallen (R85, R86). -/
theorem exec_frameTake_doorstat (s : State) (f : Frame) (rest : List Frame) (hr : s.inReset = false)
    (head : s.rxp.queue = f :: rest) (kind : f.kind = .doorstat) (number : f.number = s.cc.number) :
    exec .frameTake s = .next (((s.setRxp { s.rxp with queue := rest }).noteFall rest.length).takeDoorstat f) := by
  have free : s.consumerBusy f.kind = false := by rw [kind]; rfl
  have same : f.number = ((s.setRxp { s.rxp with queue := rest }).noteFall rest.length).cc.number := by
    simp [number]
  rw [exec_frameTake, execFrameTake_free s f rest hr head free, State.takeHead, if_pos (.inl same), State.consume,
    kind]

/-- A DOORSTAT of a member whose header and position field name its position, not the own one, is stored (R139). -/
theorem State.takeDoorstat_stores (s : State) (f : Frame) (p : Nat) (left right : Bool)
    (fields : doorstatOf f.payload = some (f.position, left, right)) (formed : s.cc.formState = .formed)
    (member : s.cc.table.positionOf f.sender = some p) (header : f.position.toNat = p) (other : p ≠ s.ownPosition) :
    s.takeDoorstat f =
      (s.setDcu (s.dcu.store
        { position := p, left := left, right := right, receivedAt := s.now, fresh := true })).evalDoorsSecure := by
  unfold State.takeDoorstat
  rw [fields, member]
  exact if_pos ⟨s.isFormed_eq_true_iff.mpr formed, header, header, other⟩

/-- Any other DOORSTAT is ignored (R139, R189). -/
theorem State.takeDoorstat_ignores (s : State) (f : Frame)
    (h : doorstatOf f.payload = none ∨ s.cc.formState ≠ .formed
      ∨ (∀ p, s.cc.table.positionOf f.sender = some p → p ≠ s.ownPosition → f.position.toNat = p →
          ∀ x, doorstatOf f.payload = some x → x.1 ≠ f.position)) : s.takeDoorstat f = s := by
  unfold State.takeDoorstat
  split
  case h_2 => rfl
  case h_1 position left right p fields member =>
    refine if_neg fun ⟨formed, header, field, other⟩ => ?_
    obtain none | out | differs := h
    · nomatch none.symm.trans fields
    · exact out (s.isFormed_eq_true_iff.mp formed)
    · exact differs p member other header _ fields (BitVec.eq_of_toNat_eq (field.trans header.symm))

/-! ### The statement -/

/-- Settles O53: the repeats of an issue, the DOORSTAT timer, stale status, and the DOORSTATs taken. -/
theorem copiesAndDoorStatusRunOn : Obligations.CopiesAndDoorStatusRunOn := by
  refine ⟨?copies, ?period, ?stale, ?timer, ?taken⟩
  case copies =>
    intro s pre rest i t hr schedule before phase
    have issue : s.SpacingIssue pre i rest t := ⟨schedule, before, phase⟩
    rw [issue.exec_eq hr]
    refine ⟨fun room => ?_, fun full early => ?_, fun full third => ?_⟩
    · rw [issue.advanceTo.stored room]
      rfl
    · rw [issue.advanceTo.skipped full, i.copyEnded_early _ early]
      rfl
    · rw [issue.advanceTo.skipped full, i.copyEnded_third _ third]
      rfl
  case period =>
    intro s t left hr formed mapping expires
    obtain ⟨position, payload⟩ := s.buildDoorstat_formed left formed mapping
    refine ⟨_, exec_doorstatPeriod_due s t hr formed expires, rfl, rfl, rfl, rfl, rfl, rfl, rfl, rfl, rfl, ?_⟩
    intro room
    exact ⟨s.buildDoorstat, mem_superseding _ _ _ (.inr room), rfl, rfl, position, payload⟩
  case stale =>
    intro s p e hr formed found
    refine ⟨_, exec_doorstatStale_due s p e hr formed found, State.evalDoorsSecure_now _, ?_, ?_, ?_⟩
    · rw [State.evalDoorsSecure_dcu]
      rfl
    · intro one within other
      exact State.evalDoorsSecure_off _
        (State.doorsSecure_unreported _ p one within other (s.dcu.markStale_reportsSecure p))
    · simp [State.staleAt]
  case timer =>
    intro s t timer
    rw [State.doorstatOccasion, State.submitDoorstat_dcu, timer]
    refine ⟨rfl, fun due formed => ?_, fun later => ?_⟩
    · have inFormed : s.submitDoorstat.isFormed = true := s.isFormed_eq_true_iff.mpr formed
      rw [if_pos inFormed, owedAfter_due t _ _ due, Option.some_or]
    · have notDue : ∀ d, some t = some d → s.now < d := fun d same => by
        obtain rfl := Option.some.inj same
        exact later
      exact owedAfter_notDue (some t) s.dcu.doorstatOwed s.now notDue
  case taken =>
    intro s f rest hr head kind number v
    have cc : v.cc = s.cc := by simp [v]
    have dcu : v.dcu = s.dcu := by simp [v]
    have now : v.now = s.now := by simp [v]
    have own : v.ownPosition = s.ownPosition := by simp [State.ownPosition, State.id, v]
    rw [exec_frameTake_doorstat s f rest hr head kind number]
    refine ⟨?stores, ?ignores⟩
    case stores =>
      intro p left right fields formed member header other w
      have stored := v.takeDoorstat_stores f p left right fields (cc ▸ formed) (cc ▸ member) header (own ▸ other)
      rw [dcu, now] at stored
      exact congrArg Host.Outcome.next stored
    case ignores =>
      intro ignored
      have same : v.takeDoorstat f = v := v.takeDoorstat_ignores f (by rwa [cc, own])
      exact congrArg Host.Outcome.next same

end Sys2Proof.Machine
end

section
/-! SUPPORT. The Heating Share Unit: the dispatcher's arms, and one rule per operation of the HSU: what it writes, and
what it leaves (R147 to R161). -/

namespace Sys2Proof.Machine

/-! ### The dispatcher, for the commands of the HSU -/

theorem exec_heatDemand (channel frost comfort : Byte) (s : State) :
    exec (.heatDemand channel frost comfort) s = execHeatDemand channel frost comfort s := rfl

theorem exec_supplyOffer (offer : BitVec 16) (s : State) :
    exec (.supplyOffer offer) s = execSupplyOffer offer s := rfl

theorem exec_heatbidPeriod (s : State) : exec .heatbidPeriod s = execHeatbidPeriod s := rfl

theorem exec_bidStale (p : Nat) (s : State) : exec (.bidStale p) s = execBidStale p s := rfl

theorem exec_allocationEnd (s : State) : exec .allocationEnd s = execAllocationEnd s := rfl

theorem exec_settleExpiry (s : State) : exec .settleExpiry s = execSettleExpiry s := rfl

theorem exec_holdOverExpiry (s : State) : exec .holdOverExpiry s = execHoldOverExpiry s := rfl

/-! ### The inputs of an allocation (R154) -/

theorem State.allocInputsFrom_eq_mapIdx (s : State) (p : Nat) (es : List TableEntry) :
    s.allocInputsFrom p es = es.mapIdx (fun i e => s.allocInput (p + i) e) := by
  induction es generalizing p with
  | nil => rfl
  | cons e es ih => simp [State.allocInputsFrom, ih, Nat.add_assoc, Nat.add_comm 1]

theorem State.allocInputs_eq_mapIdx (s : State) :
    s.allocInputs = s.cc.table.entries.mapIdx (fun i e => s.allocInput (1 + i) e) :=
  s.allocInputsFrom_eq_mapIdx 1 _

/-- The inputs are read from the table, the own values and the bids. -/
theorem State.allocInputs_setHsu (s : State) (h : Hsu) (demands : h.demands = s.hsu.demands)
    (offer : h.offer = s.hsu.offer) (bids : h.bids = s.hsu.bids) : (s.setHsu h).allocInputs = s.allocInputs := by
  rw [State.allocInputs_eq_mapIdx, State.allocInputs_eq_mapIdx]
  simp only [State.allocInput, State.frostOwn, State.comfortOwn, Hsu.freshBid, State.setHsu_hsu, State.setHsu_cc,
    State.setHsu_straps, State.setHsu_ownPosition, demands, offer, bids]

/-! ### Triggers (R156) -/

/-- The computation that starts from the inputs of this moment. -/
def State.newAllocation (s : State) : Allocation where
  inputs := s.allocInputs
  ownPosition := s.ownPosition
  afterSettle := s.hsu.settle.isNone
  abandoned := false
  endsBy := s.now + Config.ms 2

theorem State.startAllocation_hsu (s : State) :
    s.startAllocation.hsu = { s.hsu with alloc := some s.newAllocation } := rfl

@[simp] theorem State.startAllocation_allocInputs (s : State) : s.startAllocation.allocInputs = s.allocInputs :=
  s.allocInputs_setHsu _ rfl rfl rfl

section Trigger

variable {s : State}

theorem State.triggerAllocation_starts (formed : s.cc.formState = .formed) (idle : s.hsu.alloc = none) :
    s.triggerAllocation = s.startAllocation := by
  rw [State.triggerAllocation, if_pos (s.isFormed_eq_true_iff.mpr formed), if_neg (by simp [idle])]

theorem State.triggerAllocation_reruns (formed : s.cc.formState = .formed) (busy : s.hsu.alloc.isSome = true) :
    s.triggerAllocation = s.setHsu { s.hsu with rerunPending := true } := by
  rw [State.triggerAllocation, if_pos (s.isFormed_eq_true_iff.mpr formed), if_pos busy]

/-- After a trigger in FORMED a computation runs, and one that ran before is to run again. -/
theorem State.triggerAllocation_alloc (formed : s.cc.formState = .formed) :
    s.triggerAllocation.hsu.alloc.isSome = true
      ∧ s.triggerAllocation.hsu.rerunPending = (s.hsu.rerunPending || s.hsu.alloc.isSome) := by
  by_cases busy : s.hsu.alloc.isSome = true
  · rw [State.triggerAllocation_reruns formed busy]
    simp [busy]
  · have idle : s.hsu.alloc = none := by simpa using busy
    rw [State.triggerAllocation_starts formed idle]
    simp [State.startAllocation_hsu, idle]

end Trigger

/-! ### The applied grant (R160 to R163) -/

theorem State.applyGrant_same (s : State) (g : Grant) (same : g = s.hsu.applied) : s.applyGrant g = s := if_pos same

theorem State.applyGrant_changed (s : State) (g : Grant) (change : g ≠ s.hsu.applied) :
    s.applyGrant g
      = ((s.setHsu { s.hsu with applied := g }).post (.heatGrant (g.frost + g.comfort))).convertDuties :=
  if_neg change

/-- A set grant is applied, and at most the targets change with it. -/
theorem State.applyGrant_hsu (s : State) (g : Grant) :
    ∃ targets, (s.applyGrant g).hsu = { s.hsu with applied := g, targets := targets } := by
  by_cases same : g = s.hsu.applied
  · rw [s.applyGrant_same g same, same]
    exact ⟨s.hsu.targets, rfl⟩
  · rw [s.applyGrant_changed g same]
    exact ⟨_, rfl⟩

@[simp] theorem State.applyGrant_applied (s : State) (g : Grant) : (s.applyGrant g).hsu.applied = g := by
  obtain ⟨targets, hsu⟩ := s.applyGrant_hsu g
  rw [hsu]
@[simp] theorem State.applyGrant_demands (s : State) (g : Grant) : (s.applyGrant g).hsu.demands = s.hsu.demands := by
  obtain ⟨targets, hsu⟩ := s.applyGrant_hsu g
  rw [hsu]
@[simp] theorem State.applyGrant_offer (s : State) (g : Grant) : (s.applyGrant g).hsu.offer = s.hsu.offer := by
  obtain ⟨targets, hsu⟩ := s.applyGrant_hsu g
  rw [hsu]
@[simp] theorem State.applyGrant_bids (s : State) (g : Grant) : (s.applyGrant g).hsu.bids = s.hsu.bids := by
  obtain ⟨targets, hsu⟩ := s.applyGrant_hsu g
  rw [hsu]
@[simp] theorem State.applyGrant_bidTimer (s : State) (g : Grant) : (s.applyGrant g).hsu.bidTimer = s.hsu.bidTimer := by
  obtain ⟨targets, hsu⟩ := s.applyGrant_hsu g
  rw [hsu]
@[simp] theorem State.applyGrant_alloc (s : State) (g : Grant) : (s.applyGrant g).hsu.alloc = s.hsu.alloc := by
  obtain ⟨targets, hsu⟩ := s.applyGrant_hsu g
  rw [hsu]
@[simp] theorem State.applyGrant_rerunPending (s : State) (g : Grant) :
    (s.applyGrant g).hsu.rerunPending = s.hsu.rerunPending := by
  obtain ⟨targets, hsu⟩ := s.applyGrant_hsu g
  rw [hsu]
@[simp] theorem State.applyGrant_source (s : State) (g : Grant) : (s.applyGrant g).hsu.source = s.hsu.source := by
  obtain ⟨targets, hsu⟩ := s.applyGrant_hsu g
  rw [hsu]
@[simp] theorem State.applyGrant_frozen (s : State) (g : Grant) : (s.applyGrant g).hsu.frozen = s.hsu.frozen := by
  obtain ⟨targets, hsu⟩ := s.applyGrant_hsu g
  rw [hsu]
@[simp] theorem State.applyGrant_holdOver (s : State) (g : Grant) : (s.applyGrant g).hsu.holdOver = s.hsu.holdOver := by
  obtain ⟨targets, hsu⟩ := s.applyGrant_hsu g
  rw [hsu]

/-- A grant that stays sends nothing; a change posts HEAT_GRANT and converts the duties (R161). -/
theorem State.applyGrant_effect (s : State) (g : Grant) :
    (g = s.hsu.applied → (s.applyGrant g).port = s.port ∧ (s.applyGrant g).otb = s.otb
        ∧ (s.applyGrant g).hsu.targets = s.hsu.targets)
      ∧ (g ≠ s.hsu.applied → (s.applyGrant g).hsu.targets = (s.applyGrant g).duties
        ∧ (s.port.notices.length < 16 →
            (s.applyGrant g).port.notices = s.port.notices ++ [.heatGrant (g.frost + g.comfort)])) := by
  refine ⟨fun same => ?_, fun change => ?_⟩
  · rw [s.applyGrant_same g same]
    exact ⟨rfl, rfl, rfl⟩
  · rw [s.applyGrant_changed g change]
    exact ⟨rfl, State.post_notices _ _⟩

/-! ### The own HEATBID (R150, R62) -/

/-- The HEATBID that carries the own values. -/
def State.ownBid (s : State) : Frame :=
  s.buildFrame .heatbid (heatbidPayload s.frostOwn s.comfortOwn s.hsu.offer)

theorem State.submitHeatbid_lau (s : State) : s.submitHeatbid.lau = s.lau.submitHeatbid s.ownBid := rfl

/-- A submission writes the SUPPLY queue and the bid timer alone. -/
theorem State.submitHeatbid_hsu (s : State) :
    s.submitHeatbid.hsu =
      { s.hsu with
        bidTimer := some (s.now + Config.ms 1000)
        bidOwed := owedAfter s.hsu.bidTimer s.hsu.bidOwed s.now } := rfl

theorem State.ownBid_position (s : State) (formed : s.cc.formState = .formed) :
    s.ownBid.position = BitVec.ofNat 8 s.ownPosition :=
  if_pos (s.isFormed_eq_true_iff.mpr formed)

/-- In a sound store a HEATBID waits alone in the SUPPLY queue: it takes the place of one that waited (R58, R62). -/
theorem State.storeSound.supply_submitHeatbid {s : State} (h : s.storeSound) (f : Frame) (kind : f.kind = .heatbid) :
    (s.lau.submitHeatbid f).supply = [f] := by
  obtain ⟨⟨-, -, room⟩, ⟨-, -, -, -, kinds⟩, -⟩ := h
  change (superseding 1 s.lau.supply f).1 = [f]
  cases waiting : s.lau.supply with
  | nil => rfl
  | cons g gs =>
    rw [waiting] at room kinds
    obtain rfl : gs = [] := List.length_eq_zero_iff.mp (Nat.le_zero.mp (Nat.le_of_succ_le_succ room))
    have same : g.kind = f.kind := (kinds g List.mem_cons_self).trans kind.symm
    simp [superseding, replaceKind, same]

end Sys2Proof.Machine
end

section
/-! The settled statement about the end of an allocation and the grants of all positions (R155 to R157, R161, R166). -/

namespace Sys2Proof.Machine

/-! ### Shares (R155) -/

theorem share_fits (demand total amount : Nat) (fits : total ≤ amount) : share demand total amount = demand :=
  if_pos fits

theorem share_scaled (demand total amount : Nat) (short : amount < total) :
    share demand total amount = demand * amount / total :=
  if_neg (Nat.not_le.mpr short)

/-- A share is at most the demand. -/
theorem share_le (demand total amount : Nat) : share demand total amount ≤ demand := by
  by_cases fits : total ≤ amount
  · exact Nat.le_of_eq (share_fits demand total amount fits)
  · have short : amount < total := Nat.lt_of_not_le fits
    rw [share_scaled demand total amount short]
    refine Nat.div_le_of_le_mul ?_
    calc demand * amount ≤ demand * total := Nat.mul_le_mul_left _ (Nat.le_of_lt short)
      _ = total * demand := Nat.mul_comm _ _

/-- Floored shares times the divisor are at most the scaled demands. -/
theorem sum_floored_mul_le (demands : List Nat) (amount total : Nat) :
    (demands.map (fun d => d * amount / total)).sum * total ≤ demands.sum * amount := by
  induction demands with
  | nil => simp
  | cons d ds ih =>
    rw [List.map_cons, List.sum_cons, List.sum_cons, Nat.add_mul, Nat.add_mul]
    exact Nat.add_le_add (Nat.div_mul_le_self _ _) ih

/-- All shares of an amount together are at most the amount. -/
theorem sum_share_le (demands : List Nat) (amount : Nat) :
    (demands.map (fun d => share d demands.sum amount)).sum ≤ amount := by
  by_cases fits : demands.sum ≤ amount
  · simp only [share_fits _ _ _ fits, List.map_id']
    exact fits
  · have short : amount < demands.sum := Nat.lt_of_not_le fits
    simp only [share_scaled _ _ _ short]
    have scaled := sum_floored_mul_le demands amount demands.sum
    rw [Nat.mul_comm demands.sum amount] at scaled
    exact Nat.le_of_mul_le_mul_right scaled (Nat.zero_lt_of_lt short)

/-- The frost and the comfort of a list of grants can be summed apart. -/
theorem sum_map_frost_add_comfort (grants : List Grant) :
    (grants.map (fun g => g.frost + g.comfort)).sum
      = (grants.map Grant.frost).sum + (grants.map Grant.comfort).sum := by
  induction grants with
  | nil => rfl
  | cons g gs ih =>
    simp only [List.map_cons, List.sum_cons, ih]
    omega

/-! ### The grants of all positions (R155) -/

theorem allocate_length (inputs : List AllocInput) : (allocate inputs).length = inputs.length :=
  List.length_map _

/-- The frost grants take at most the offers, and the comfort grants at most what the frost grants leave. -/
theorem allocate_sum_le (inputs : List AllocInput) :
    ((allocate inputs).map (fun g => g.frost + g.comfort)).sum ≤ (inputs.map AllocInput.offer).sum := by
  have frost := sum_share_le (inputs.map AllocInput.frost) (inputs.map AllocInput.offer).sum
  have comfort := sum_share_le (inputs.map AllocInput.comfort) ((inputs.map AllocInput.offer).sum
    - (inputs.map (fun i => share i.frost (inputs.map AllocInput.frost).sum (inputs.map AllocInput.offer).sum)).sum)
  simp only [List.map_map, Function.comp_def] at frost comfort
  rw [sum_map_frost_add_comfort]
  simp only [allocate, List.map_map, Function.comp_def]
  omega

/-- The grant of a position is a share of its demands. -/
theorem allocate_getElem? (inputs : List AllocInput) (p : Nat) (i : AllocInput) (g : Grant)
    (input : inputs[p]? = some i) (grant : (allocate inputs)[p]? = some g) :
    ∃ rest, g.frost = share i.frost (inputs.map AllocInput.frost).sum (inputs.map AllocInput.offer).sum
      ∧ g.comfort = share i.comfort (inputs.map AllocInput.comfort).sum rest := by
  rw [allocate, List.getElem?_map, input] at grant
  obtain rfl := Option.some.inj grant
  exact ⟨_, rfl, rfl⟩

/-! ### ALLOCATION_END (R156, R157, R166) -/

section End

variable {s : State} {a : Allocation}

theorem exec_allocationEnd_running (hr : s.inReset = false) (running : s.hsu.alloc = some a) :
    exec .allocationEnd s = .next (s.endAllocation a) := by
  rw [exec_allocationEnd, execAllocationEnd, State.inService_running _ _ hr, running]

theorem State.endAllocation_rerun (rerun : s.hsu.rerunPending = true) :
    s.endAllocation a = (s.setHsu { s.hsu with alloc := none, rerunPending := false }).startAllocation :=
  if_pos rerun

/-- Without a re-run nothing but the computation goes before its result is looked at. -/
theorem State.endAllocation_once (once : s.hsu.rerunPending = false) :
    s.endAllocation a =
      if a.abandoned then s.setHsu { s.hsu with alloc := none }
      else (s.setHsu { s.hsu with alloc := none }).takeGrant a := by
  have idle : ({ s.hsu with alloc := none, rerunPending := false } : Hsu) = { s.hsu with alloc := none } := by
    rw [← once]
  rw [State.endAllocation, idle]
  exact if_neg (by simp [once])

theorem State.takeGrant_inSettle (s : State) (inSettle : a.afterSettle = false) : s.takeGrant a = s :=
  if_neg (by simp [inSettle])

theorem State.takeGrant_afterSettle (s : State) (after : a.afterSettle = true) :
    s.takeGrant a = (s.setHsu { s.hsu with source := .computed, holdOver := none }).applyGrant a.grant :=
  if_pos after

end End

/-- Settles O56: the end of an allocation by its cases, and the shares of all positions. -/
theorem allocationEndSetsGrant : Obligations.AllocationEndSetsGrant := by
  refine ⟨?ended, ?shares⟩
  case ended =>
    intro s a hr running
    rw [exec_allocationEnd_running hr running]
    refine ⟨fun rerun => ?again, fun once dropped => ?dropped, fun once kept after => ?applied⟩
    case again =>
      rw [State.endAllocation_rerun rerun]
      exact ⟨_, _, rfl, rfl, s.allocInputs_setHsu _ rfl rfl rfl, rfl, rfl, rfl, rfl, rfl, rfl, rfl⟩
    case dropped =>
      rw [State.endAllocation_once once]
      split
      case isTrue => rfl
      case isFalse kept =>
        rw [State.takeGrant_inSettle _ (dropped.resolve_left kept)]
    case applied =>
      rw [State.endAllocation_once once, if_neg (by simp [kept]), State.takeGrant_afterSettle _ after]
      obtain ⟨stays, changes⟩ := State.applyGrant_effect
        ((s.setHsu { s.hsu with alloc := none }).setHsu
          { s.hsu with alloc := none, source := .computed, holdOver := none }) a.grant
      exact ⟨_, rfl, by simp, by simp, by simp, by simp; rfl, by simp, by simp, by simp, by simp, by simp, stays,
        changes⟩
  case shares =>
    refine fun inputs => ⟨allocate_length inputs, allocate_sum_le inputs, fun p i g input grant => ?_⟩
    obtain ⟨rest, frost, comfort⟩ := allocate_getElem? inputs p i g input grant
    rw [frost, comfort]
    exact ⟨share_le _ _ _, share_le _ _ _, share_fits _ _ _⟩

end Sys2Proof.Machine
end

section
/-! The settled statement about demands and offers (R147 to R150, R160). -/

namespace Sys2Proof.Machine

/-! ### What follows a change of the own values (R149, R160) -/

/-- In LIMIT the grant is set again from the own frost of this moment (R160). -/
def State.limitSetAgain (s : State) : State := if s.hsu.source = .limit then s.applyGrant s.limitGrant else s

theorem State.limitSetAgain_cases (s : State) :
    s.hsu.source = .limit ∧ s.limitSetAgain = s.applyGrant s.limitGrant
      ∨ s.hsu.source ≠ .limit ∧ s.limitSetAgain = s := by
  by_cases limit : s.hsu.source = .limit
  · exact .inl ⟨limit, if_pos limit⟩
  · exact .inr ⟨limit, if_neg limit⟩

/-- Totals that stay bid and allocate nothing. -/
theorem State.ownValuesChanged_sameTotals (s : State) : s.ownValuesChanged false = s.convertDuties := by
  simp [State.ownValuesChanged]

theorem State.ownValuesChanged_formed (s : State) (formed : s.cc.formState = .formed) :
    s.ownValuesChanged true = s.submitHeatbid.triggerAllocation.limitSetAgain.convertDuties := by
  simp [State.ownValuesChanged, State.limitSetAgain, s.isFormed_eq_true_iff.mpr formed]

theorem State.ownValuesChanged_notFormed (s : State) (out : s.cc.formState ≠ .formed) :
    s.ownValuesChanged true = s.limitSetAgain.convertDuties := by
  simp [State.ownValuesChanged, State.limitSetAgain, s.isFormed_eq_false_iff.mpr out]

/-- What a change of the own values keeps, from the state `t` that holds the new values to the state `u`. -/
structure State.ValuesUsed (t u : State) : Prop where
  demands : u.hsu.demands = t.hsu.demands
  offer : u.hsu.offer = t.hsu.offer
  targets : u.hsu.targets = u.duties
  straps : u.straps = t.straps
  cc : u.cc = t.cc
  dcu : u.dcu = t.dcu

theorem State.ValuesUsed.frostOwn {t u : State} (h : t.ValuesUsed u) : u.frostOwn = t.frostOwn := by
  rw [State.frostOwn, h.demands, h.straps, State.frostOwn]

theorem State.ValuesUsed.comfortOwn {t u : State} (h : t.ValuesUsed u) : u.comfortOwn = t.comfortOwn := by
  rw [State.comfortOwn, h.demands, h.straps, State.comfortOwn]

/-- The LIMIT source applies its grant; another source keeps the one applied (R160). -/
def State.LimitFollows (t u : State) : Prop :=
  (t.hsu.source = .limit → u.hsu.applied = t.limitGrant) ∧ (t.hsu.source ≠ .limit → u.hsu.applied = t.hsu.applied)

/-- The bid timer, the computation and the transmit store stay. -/
def State.BidStays (t u : State) : Prop :=
  u.hsu.bidTimer = t.hsu.bidTimer ∧ u.hsu.alloc = t.hsu.alloc ∧ u.lau = t.lau

/-- The own HEATBID is submitted and an allocation is triggered (R149, R150). -/
structure State.BidGoesOut (t u : State) : Prop where
  timer : u.hsu.bidTimer = some (t.now + Config.ms 1000)
  alloc : u.hsu.alloc.isSome = true
  rerun : u.hsu.rerunPending = (t.hsu.rerunPending || t.hsu.alloc.isSome)
  lau : u.lau = t.lau.submitHeatbid t.ownBid

@[simp] theorem State.convertDuties_hsu (s : State) :
    s.convertDuties.hsu = { s.hsu with targets := s.duties } := rfl

@[simp] theorem State.convertDuties_duties (s : State) : s.convertDuties.duties = s.duties := rfl

section Tail

variable (t : State)

theorem State.limitSetAgain_used : t.ValuesUsed t.limitSetAgain.convertDuties := by
  obtain ⟨-, set⟩ | ⟨-, stays⟩ := t.limitSetAgain_cases
  · rw [set]
    exact ⟨by simp, by simp, by simp, by simp, by simp, by simp⟩
  · rw [stays]
    exact ⟨rfl, rfl, rfl, rfl, rfl, rfl⟩

theorem State.limitSetAgain_follows : t.LimitFollows t.limitSetAgain.convertDuties := by
  obtain ⟨limit, set⟩ | ⟨other, stays⟩ := t.limitSetAgain_cases
  · exact ⟨fun _ => by simp [set], fun other => absurd limit other⟩
  · exact ⟨fun limit => absurd limit other, fun _ => by simp [stays]⟩

theorem State.limitSetAgain_bidStays :
    t.BidStays t.limitSetAgain.convertDuties ∧ t.limitSetAgain.hsu.rerunPending = t.hsu.rerunPending := by
  unfold State.BidStays
  obtain ⟨-, set⟩ | ⟨-, stays⟩ := t.limitSetAgain_cases
  · simp [set]
  · simp [stays]

/-- A bid and a trigger leave the rest of the HSU. -/
theorem State.bidAndTrigger_hsu :
    ∃ a r, t.submitHeatbid.triggerAllocation.hsu =
      { t.hsu with
        bidTimer := some (t.now + Config.ms 1000), bidOwed := owedAfter t.hsu.bidTimer t.hsu.bidOwed t.now
        alloc := a, rerunPending := r } :=
  t.submitHeatbid.triggerAllocation_hsu

end Tail

section Change

variable (t : State)

theorem State.ownValuesChanged_used (totals : Bool) : t.ValuesUsed (t.ownValuesChanged totals) := by
  cases totals with
  | false =>
    rw [t.ownValuesChanged_sameTotals]
    exact ⟨rfl, rfl, rfl, rfl, rfl, rfl⟩
  | true =>
    by_cases formed : t.cc.formState = .formed
    · obtain ⟨a, r, hsu⟩ := t.bidAndTrigger_hsu
      have used := t.submitHeatbid.triggerAllocation.limitSetAgain_used
      rw [t.ownValuesChanged_formed formed]
      exact ⟨used.demands.trans (by rw [hsu]), used.offer.trans (by rw [hsu]), used.targets,
        used.straps.trans (by simp), used.cc.trans (by simp), used.dcu.trans (by simp)⟩
    · rw [t.ownValuesChanged_notFormed formed]
      exact t.limitSetAgain_used

theorem State.ownValuesChanged_limit : t.LimitFollows (t.ownValuesChanged true) := by
  by_cases formed : t.cc.formState = .formed
  · obtain ⟨a, r, hsu⟩ := t.bidAndTrigger_hsu
    have follows := t.submitHeatbid.triggerAllocation.limitSetAgain_follows
    rw [t.ownValuesChanged_formed formed]
    simpa [State.LimitFollows, State.limitGrant, State.frostOwn, hsu] using follows
  · rw [t.ownValuesChanged_notFormed formed]
    exact t.limitSetAgain_follows

theorem State.ownValuesChanged_bids (formed : t.cc.formState = .formed) :
    t.BidGoesOut (t.ownValuesChanged true) := by
  obtain ⟨a, r, hsu⟩ := t.bidAndTrigger_hsu
  obtain ⟨runs, again⟩ := State.triggerAllocation_alloc (s := t.submitHeatbid) formed
  obtain ⟨⟨timer, alloc, lau⟩, rerun⟩ := t.submitHeatbid.triggerAllocation.limitSetAgain_bidStays
  rw [t.ownValuesChanged_formed formed]
  exact ⟨timer.trans (by rw [hsu]), by rw [alloc, runs], rerun.trans again,
    (lau.trans (State.triggerAllocation_lau _)).trans t.submitHeatbid_lau⟩

theorem State.ownValuesChanged_quiet (out : t.cc.formState ≠ .formed) : t.BidStays (t.ownValuesChanged true) := by
  rw [t.ownValuesChanged_notFormed out]
  exact t.limitSetAgain_bidStays.1

end Change

/-! ### The requests (R147, R148) -/

/-- The state with a demand of a channel stored (R147). -/
def State.withDemand (s : State) (k : Nat) (d : Demand) : State :=
  s.setHsu { s.hsu with demands := s.hsu.demands.set k d }

/-- F_own or C_own is another one in the second state (R149). -/
def State.totalsDiffer (s t : State) : Bool :=
  decide (t.frostOwn ≠ s.frostOwn) || decide (t.comfortOwn ≠ s.comfortOwn)

theorem State.totalsDiffer_iff (s t : State) :
    s.totalsDiffer t = true ↔ t.frostOwn ≠ s.frostOwn ∨ t.comfortOwn ≠ s.comfortOwn := by
  rw [State.totalsDiffer, Bool.or_eq_true, decide_eq_true_iff, decide_eq_true_iff]

/-- The state with an offer stored (R148). -/
def State.withOffer (s : State) (offer : Nat) : State := s.setHsu { s.hsu with offer := offer }

/-- A request of the port that is answered with its result code alone. -/
theorem State.onRequest_answered {s : State} (hp : s.portOpen) (i : Instr) (act : State → State × List Byte) (t : State)
    (r : Result) (acts : act s = (t, answer r)) : s.onRequest i act = t.answered [r.code] := by
  obtain ⟨hr, phase⟩ := hp
  rw [s.onRequest_open i act hr phase, acts]
  rfl

section HeatDemand

variable {s : State} {channel frost comfort : Byte}

theorem exec_heatDemand_answered (hp : s.portOpen) (t : State) (r : Result)
    (acts : s.heatDemandRequest channel frost comfort = (t, answer r)) :
    exec (.heatDemand channel frost comfort) s = .next (t.answered [r.code]) := by
  rw [exec_heatDemand, execHeatDemand, s.onRequest_answered hp _ _ t r acts]

theorem State.heatDemandRequest_absent (absent : s.straps.heatCh ≤ channel.toNat) :
    s.heatDemandRequest channel frost comfort = (s, answer .noChannel) :=
  if_pos absent

theorem State.heatDemandRequest_outOfRange (present : channel.toNat < s.straps.heatCh)
    (out : 100 < frost.toNat + comfort.toNat) :
    s.heatDemandRequest channel frost comfort = (s, answer .badValue) := by
  rw [State.heatDemandRequest]
  dsimp only
  rw [if_neg (Nat.not_le.mpr present), if_pos (.inr (.inr out))]

theorem State.heatDemandRequest_repeat (present : channel.toNat < s.straps.heatCh)
    (within : frost.toNat + comfort.toNat ≤ 100)
    (same : s.hsu.demands[channel.toNat]? = some { frost := frost.toNat, comfort := comfort.toNat }) :
    s.heatDemandRequest channel frost comfort = (s, answer .ok) := by
  rw [State.heatDemandRequest]
  dsimp only
  rw [if_neg (Nat.not_le.mpr present), if_neg (by omega), if_pos same]

/-- A new demand is stored and used; it bids and allocates when it changes a total (R149). -/
theorem State.heatDemandRequest_change (present : channel.toNat < s.straps.heatCh)
    (within : frost.toNat + comfort.toNat ≤ 100) (d : Demand)
    (record : { frost := frost.toNat, comfort := comfort.toNat } = d)
    (new : s.hsu.demands[channel.toNat]? ≠ some d) :
    s.heatDemandRequest channel frost comfort
      = ((s.withDemand channel.toNat d).ownValuesChanged (s.totalsDiffer (s.withDemand channel.toNat d)),
          answer .ok) := by
  subst record
  rw [State.heatDemandRequest]
  dsimp only
  rw [if_neg (Nat.not_le.mpr present), if_neg (by omega), if_neg new]
  rfl

end HeatDemand

section SupplyOffer

variable {s : State} {offer : BitVec 16}

theorem exec_supplyOffer_answered (hp : s.portOpen) (t : State) (r : Result)
    (acts : s.supplyOfferRequest offer = (t, answer r)) :
    exec (.supplyOffer offer) s = .next (t.answered [r.code]) := by
  rw [exec_supplyOffer, execSupplyOffer, s.onRequest_answered hp _ _ t r acts]

theorem State.supplyOfferRequest_noSupply (noSupply : s.straps.coachType.isSupply = false) :
    s.supplyOfferRequest offer = (s.withOffer 0, answer .notSupplyType) :=
  if_pos (by simp [noSupply])

theorem State.supplyOfferRequest_outOfRange (supply : s.straps.coachType.isSupply = true)
    (out : 1000 < offer.toNat) : s.supplyOfferRequest offer = (s, answer .badValue) := by
  rw [State.supplyOfferRequest, if_neg (by simp [supply]), if_pos out]

theorem State.supplyOfferRequest_repeat (supply : s.straps.coachType.isSupply = true)
    (within : offer.toNat ≤ 1000) (same : offer.toNat = s.hsu.offer) :
    s.supplyOfferRequest offer = (s, answer .ok) := by
  rw [State.supplyOfferRequest, if_neg (by simp [supply]), if_neg (Nat.not_lt.mpr within), if_pos same]

/-- A new offer is stored and used; it always bids and allocates (R149). -/
theorem State.supplyOfferRequest_change (supply : s.straps.coachType.isSupply = true)
    (within : offer.toNat ≤ 1000) (new : offer.toNat ≠ s.hsu.offer) :
    s.supplyOfferRequest offer = ((s.withOffer offer.toNat).ownValuesChanged true, answer .ok) := by
  rw [State.supplyOfferRequest, if_neg (by simp [supply]), if_neg (Nat.not_lt.mpr within), if_neg new]
  rfl

end SupplyOffer

/-- The HEATBID that goes out waits alone in the SUPPLY queue and carries the own values after the change. -/
theorem State.BidGoesOut.supply {t u : State} (h : t.BidGoesOut u) (used : t.ValuesUsed u)
    (formed : t.cc.formState = .formed) (sound : t.storeSound) :
    ∃ f, u.lau.supply = [f] ∧ f.kind = .heatbid ∧ f.number = t.cc.number ∧ f.sender = t.id
      ∧ f.position = BitVec.ofNat 8 t.ownPosition
      ∧ f.payload = [BitVec.ofNat 8 u.frostOwn, BitVec.ofNat 8 u.comfortOwn] ++ bytes16 u.hsu.offer := by
  refine ⟨t.ownBid, ?_, rfl, rfl, rfl, t.ownBid_position formed, ?_⟩
  · rw [h.lau, sound.supply_submitHeatbid t.ownBid rfl]
  · rw [used.frostOwn, used.comfortOwn, used.offer]
    rfl

/-- Settles O54: each request by its checks in their order, and what follows a change. -/
theorem heatRequestsAreChecked : Obligations.HeatRequestsAreChecked := by
  intro s hp bidQueued
  refine ⟨fun channel frost comfort => ⟨?absent, ?outOfRange, fun present within => ⟨?same, ?demand⟩⟩,
    fun offer => ⟨?noSupply, ?offerOutOfRange, ?sameOffer, ?offer⟩⟩
  case absent => exact fun absent => exec_heatDemand_answered hp s _ (State.heatDemandRequest_absent absent)
  case outOfRange =>
    exact fun present out => exec_heatDemand_answered hp s _ (State.heatDemandRequest_outOfRange present out)
  case same =>
    exact fun same => exec_heatDemand_answered hp s .ok (State.heatDemandRequest_repeat present within same)
  case demand =>
    generalize record : ({ frost := frost.toNat, comfort := comfort.toNat } : Demand) = d
    intro new
    have accepted := State.heatDemandRequest_change present within d record new
    have changed := s.totalsDiffer_iff (s.withDemand channel.toNat d)
    generalize s.totalsDiffer (s.withDemand channel.toNat d) = totals at accepted changed
    have used := (s.withDemand channel.toNat d).ownValuesChanged_used totals
    rw [← used.frostOwn, ← used.comfortOwn] at changed
    cases totals with
    | false =>
      rw [State.ownValuesChanged_sameTotals] at accepted changed used
      exact ⟨_, exec_heatDemand_answered hp _ .ok accepted, rfl, used.demands, used.offer, used.targets, used.cc,
        used.dcu, fun _ _ => ⟨rfl, rfl, rfl, rfl⟩, fun differs => absurd (changed.mpr differs) nofun⟩
    | true =>
      have bids := (s.withDemand channel.toNat d).ownValuesChanged_bids
      have quiet := (s.withDemand channel.toNat d).ownValuesChanged_quiet
      obtain ⟨limit, other⟩ := (s.withDemand channel.toNat d).ownValuesChanged_limit
      rw [State.limitGrant, ← used.frostOwn] at limit
      generalize (s.withDemand channel.toNat d).ownValuesChanged true = u at *
      refine ⟨_, exec_heatDemand_answered hp u .ok accepted, rfl, used.demands, used.offer, used.targets, used.cc,
        used.dcu, fun frostSame comfortSame => ?_, fun _ => ⟨fun formed => ?_, fun out => (quiet out).2, limit, other⟩⟩
      · exact (changed.mp rfl).elim (absurd frostSame) (absurd comfortSame)
      · have bid := bids formed
        exact ⟨bid.timer, bid.alloc, bid.rerun, bid.supply used formed⟩
  case noSupply =>
    exact fun noSupply => exec_supplyOffer_answered hp _ _ (State.supplyOfferRequest_noSupply noSupply)
  case offerOutOfRange =>
    exact fun supply out => exec_supplyOffer_answered hp s _ (State.supplyOfferRequest_outOfRange supply out)
  case sameOffer =>
    exact fun supply within same =>
      exec_supplyOffer_answered hp s .ok (State.supplyOfferRequest_repeat supply within same)
  case offer =>
    intro supply within new
    have accepted := State.supplyOfferRequest_change supply within new
    have used := (s.withOffer offer.toNat).ownValuesChanged_used true
    have bids := (s.withOffer offer.toNat).ownValuesChanged_bids
    have quiet := (s.withOffer offer.toNat).ownValuesChanged_quiet
    obtain ⟨limit, other⟩ := (s.withOffer offer.toNat).ownValuesChanged_limit
    generalize (s.withOffer offer.toNat).ownValuesChanged true = u at *
    refine ⟨_, exec_supplyOffer_answered hp u .ok accepted, rfl, used.offer, used.demands, used.targets, used.cc,
      used.dcu, fun formed => ?_, limit, other, fun out => (quiet out).2⟩
    have bid := bids formed
    exact ⟨bid.timer, bid.alloc, bid.rerun, bid.supply used formed⟩

end Sys2Proof.Machine
end

section
/-! The settled statement about the timers of the HSU and the HEATBIDs taken (R150, R152 to R154, R156, R158, R160,
R161). -/

namespace Sys2Proof.Machine

/-! ### The bid timer (R150; log entry 30) -/

/-- The take of an expiry: the owed one, or that of the timer; after it no other expiry has come. -/
theorem Hsu.takeBidExpiry_due (h : Hsu) (now t : Time)
    (expires : h.bidOwed = some t ∧ (∀ d, h.bidTimer = some d → max now t < d)
      ∨ h.bidOwed = none ∧ h.bidTimer = some t) :
    h.bidOwed.or h.bidTimer = some t
      ∧ ∃ timer, h.takeBidExpiry = { h with bidTimer := timer, bidOwed := none }
        ∧ owedAfter timer none (max now t) = none := by
  unfold Hsu.takeBidExpiry
  obtain ⟨owed, later⟩ | ⟨owed, timer⟩ := expires
  · refine ⟨by rw [owed, Option.some_or], h.bidTimer, ?_, owedAfter_notDue _ _ _ later⟩
    rw [if_pos (by rw [owed]; rfl)]
  · refine ⟨by rw [owed, Option.none_or, timer], none, ?_, rfl⟩
    rw [if_neg (by rw [owed]; nofun), ← owed]

theorem State.heatbidOccasion_formed (s : State) (formed : s.cc.formState = .formed) :
    s.heatbidOccasion = s.hsu.bidOwed.or s.hsu.bidTimer :=
  if_pos (s.isFormed_eq_true_iff.mpr formed)

/-- HEATBID_PERIOD submits the own HEATBID and restarts the timer, at the occasion (R150). -/
theorem exec_heatbidPeriod_due (s : State) (t : Time) (hr : s.inReset = false) (formed : s.cc.formState = .formed)
    (expires : s.hsu.bidOwed = some t ∧ (∀ d, s.hsu.bidTimer = some d → max s.now t < d)
      ∨ s.hsu.bidOwed = none ∧ s.hsu.bidTimer = some t) :
    exec .heatbidPeriod s = .next
      (((s.advanceTo t).setLau (s.lau.submitHeatbid s.ownBid)).setHsu
        { s.hsu with bidTimer := some (max s.now t + Config.ms 1000), bidOwed := none }) := by
  obtain ⟨due, timer, taken, owed⟩ := s.hsu.takeBidExpiry_due s.now t expires
  rw [exec_heatbidPeriod, execHeatbidPeriod, s.heatbidOccasion_formed formed, due, State.onOccasion_some _ _ _ hr,
    State.advanceTo_hsu, taken]
  exact congrArg (fun o => Host.Outcome.next (((s.advanceTo t).setLau (s.lau.submitHeatbid s.ownBid)).setHsu
    { s.hsu with bidTimer := some (max s.now t + Config.ms 1000), bidOwed := o })) owed

/-! ### Triggers of the timers (R153, R156, R158) -/

/-- From the state `s` to the state `u` an allocation is triggered in FORMED, and nothing else is written. -/
structure State.Triggered (s u : State) : Prop where
  hsu : ∃ a r, u.hsu = { s.hsu with alloc := a, rerunPending := r }
  busy : ∀ a, s.hsu.alloc = some a → u.hsu.alloc = some a ∧ u.hsu.rerunPending = true
  idle : s.hsu.alloc = none → u.hsu.alloc = some s.newAllocation
  inputs : u.allocInputs = s.allocInputs

theorem State.triggerAllocation_triggered (s : State) (formed : s.cc.formState = .formed) :
    s.Triggered s.triggerAllocation := by
  obtain ⟨a, r, hsu⟩ := s.triggerAllocation_hsu
  refine ⟨⟨a, r, hsu⟩, fun b running => ?_, fun idle => ?_, ?_⟩
  · rw [State.triggerAllocation_reruns formed (by rw [running]; rfl)]
    exact ⟨running, rfl⟩
  · rw [State.triggerAllocation_starts formed idle]
    rfl
  · by_cases idle : s.hsu.alloc = none
    · rw [State.triggerAllocation_starts formed idle, State.startAllocation_allocInputs]
    · rw [State.triggerAllocation_reruns formed (Option.isSome_iff_ne_none.mpr idle)]
      exact s.allocInputs_setHsu _ rfl rfl rfl

/-! ### Bids that go stale (R153) -/

theorem Hsu.markStale_freshBid_same (h : Hsu) (p : Nat) : (h.markStale p).freshBid p = none := by
  simp only [Hsu.freshBid, Hsu.markStale, List.find?_eq_none, List.mem_map]
  rintro - ⟨b, -, rfl⟩
  by_cases here : b.position = p
  · rw [if_pos here]
    simp
  · rw [if_neg here]
    simp [here]

/-- The bids of the other positions stay. -/
theorem Hsu.markStale_freshBid_other (h : Hsu) (p q : Nat) (other : q ≠ p) :
    (h.markStale p).freshBid q = h.freshBid q := by
  unfold Hsu.freshBid Hsu.markStale
  induction h.bids with
  | nil => rfl
  | cons b bs ih =>
    rw [List.map_cons, List.find?_cons, List.find?_cons, ih]
    by_cases here : b.position = p
    · simp [here, other.symm]
    · simp [here]

theorem exec_bidStale_due (s : State) (p : Nat) (b : Bid) (hr : s.inReset = false) (formed : s.cc.formState = .formed)
    (fresh : s.hsu.freshBid p = some b) :
    exec (.bidStale p) s = .next
      ((s.advanceTo (b.receivedAt + Config.ms 3000)).setHsu (s.hsu.markStale p)).triggerAllocation := by
  have occasion : s.bidStaleOccasion p = some (b.receivedAt + Config.ms 3000) := by
    rw [State.bidStaleOccasion, if_pos (s.isFormed_eq_true_iff.mpr formed), fresh]
    rfl
  rw [exec_bidStale, execBidStale, occasion, State.onOccasion_some _ _ _ hr]
  rfl

/-! ### The end of settle and of the hold-over (R158, R160) -/

theorem exec_settleExpiry_due (s : State) (t : Time) (hr : s.inReset = false) (formed : s.cc.formState = .formed)
    (settle : s.hsu.settle = some t) :
    exec .settleExpiry s = .next ((s.advanceTo t).setHsu { s.hsu with settle := none }).triggerAllocation := by
  have occasion : s.settleOccasion = some t := by
    rw [State.settleOccasion, if_pos (s.isFormed_eq_true_iff.mpr formed), settle]
  rw [exec_settleExpiry, execSettleExpiry, occasion, State.onOccasion_some _ _ _ hr]
  rfl

theorem exec_holdOverExpiry_due (s : State) (t : Time) (hr : s.inReset = false) (holdOver : s.hsu.holdOver = some t) :
    exec .holdOverExpiry s = .next
      (((s.advanceTo t).setHsu { s.hsu with source := .limit, holdOver := none }).applyGrant
        { frost := min s.hsu.frozen.frost s.frostOwn, comfort := 0 }) := by
  rw [exec_holdOverExpiry, execHoldOverExpiry, holdOver, State.onOccasion_some _ _ _ hr]
  rfl

/-! ### HEATBIDs taken (R86, R152, R153, R156, R158) -/

/-- A HEATBID of the node's number is taken when no computation runs, after the occupancy has fallen (R85, R86). -/
theorem exec_frameTake_heatbid (s : State) (f : Frame) (rest : List Frame) (hr : s.inReset = false)
    (head : s.rxp.queue = f :: rest) (kind : f.kind = .heatbid) (number : f.number = s.cc.number)
    (idle : s.hsu.alloc = none) :
    exec .frameTake s = .next (((s.setRxp { s.rxp with queue := rest }).noteFall rest.length).takeHeatbid f) := by
  have free : s.consumerBusy f.kind = false := by rw [kind, State.consumerBusy, State.hsuBusy, idle]; rfl
  have same : f.number = ((s.setRxp { s.rxp with queue := rest }).noteFall rest.length).cc.number := by
    simp [number]
  rw [exec_frameTake, execFrameTake_free s f rest hr head free, State.takeHead, if_pos (.inl same), State.consume,
    kind]

/-- A HEATBID of a member whose header names its position, not the own one, is limited and stored (R152). -/
theorem State.takeHeatbid_stores (s : State) (f : Frame) (p : Nat) (e : TableEntry)
    (formed : s.cc.formState = .formed) (member : s.cc.table.positionOf f.sender = some p)
    (entry : s.cc.table.entryAt p = some e) (header : f.position.toNat = p) (other : p ≠ s.ownPosition) :
    s.takeHeatbid f = s.storeBid p (limitBid e.member (heatbidOf f.payload)) := by
  unfold State.takeHeatbid
  rw [member]
  dsimp only
  rw [if_pos ⟨s.isFormed_eq_true_iff.mpr formed, header, other⟩, entry]

/-- Any other HEATBID is ignored (R152, R189). -/
theorem State.takeHeatbid_ignores (s : State) (f : Frame)
    (h : s.cc.formState ≠ .formed ∨ s.cc.table.positionOf f.sender = none
      ∨ (∀ p, s.cc.table.positionOf f.sender = some p → f.position.toNat ≠ p ∨ p = s.ownPosition)) :
    s.takeHeatbid f = s := by
  unfold State.takeHeatbid
  split
  case h_2 => rfl
  case h_1 p member =>
    refine if_neg fun ⟨formed, header, other⟩ => ?_
    obtain out | none | elsewhere := h
    · exact out (s.isFormed_eq_true_iff.mp formed)
    · nomatch none.symm.trans member
    · exact (elsewhere p member).elim (absurd header) other

theorem Hsu.bidUnchanged_iff (h : Hsu) (p : Nat) (i : AllocInput) :
    h.bidUnchanged p i = true
      ↔ ∃ b, h.freshBid p = some b ∧ b.frost = i.frost ∧ b.comfort = i.comfort ∧ b.offer = i.offer := by
  unfold Hsu.bidUnchanged
  cases h.freshBid p <;> simp [and_assoc]

/-- The state with a bid stored for its position, received now (R152). -/
def State.withBid (s : State) (p : Nat) (i : AllocInput) : State :=
  s.setHsu (s.hsu.storeBid
    { position := p, frost := i.frost, comfort := i.comfort, offer := i.offer, receivedAt := s.now, fresh := true })

/-- The store of this bid ends settle: every other position is fresh with it (R158). -/
def State.bidEndsSettle (s : State) (p : Nat) (i : AllocInput) : Bool :=
  s.hsu.settle.isSome && (s.withBid p i).allBidsFresh

/-- The state after a store, with settle ended by it or not, before the trigger. -/
def State.withBidSettled (s : State) (p : Nat) (i : AllocInput) : State :=
  (s.withBid p i).setHsu
    { (s.withBid p i).hsu with settle := if s.bidEndsSettle p i then none else s.hsu.settle }

theorem State.withBidSettled_now (s : State) (p : Nat) (i : AllocInput) : (s.withBidSettled p i).now = s.now := rfl

/-- A store triggers an allocation unless the values stay and settle does not end (R153, R156). -/
theorem State.storeBid_eq (s : State) (p : Nat) (i : AllocInput) :
    s.storeBid p i =
      if s.hsu.bidUnchanged p i && !s.bidEndsSettle p i then s.withBidSettled p i
      else (s.withBidSettled p i).triggerAllocation := by
  have stored : (if s.bidEndsSettle p i then (s.withBid p i).setHsu { (s.withBid p i).hsu with settle := none }
      else s.withBid p i) = s.withBidSettled p i := by
    unfold State.withBidSettled
    split <;> rfl
  rw [← stored]
  rfl

/-- Settle that runs ends with the store that makes every other position fresh; settle that has ended stays so. -/
theorem State.withBidSettled_settle (s : State) (p : Nat) (i : AllocInput) :
    (s.hsu.settle.isSome = true → ((s.withBidSettled p i).hsu.settle = none ↔ (s.withBid p i).allBidsFresh = true))
      ∧ (s.hsu.settle = none → (s.withBidSettled p i).hsu.settle = none)
      ∧ ((s.withBidSettled p i).hsu.settle = s.hsu.settle ↔ s.bidEndsSettle p i = false) := by
  have settle : (s.withBidSettled p i).hsu.settle = if s.bidEndsSettle p i then none else s.hsu.settle := rfl
  rw [settle, State.bidEndsSettle]
  cases s.hsu.settle with
  | none => simp
  | some t => cases (s.withBid p i).allBidsFresh <;> simp

/-- A store leaves the rest of the HSU. -/
theorem State.storeBid_hsu (s : State) (p : Nat) (i : AllocInput) :
    ∃ a r, (s.storeBid p i).hsu = { (s.withBidSettled p i).hsu with alloc := a, rerunPending := r } := by
  rw [s.storeBid_eq p i]
  split
  · exact ⟨s.hsu.alloc, s.hsu.rerunPending, rfl⟩
  · exact (s.withBidSettled p i).triggerAllocation_hsu

/-- A store leaves the other blocks. -/
theorem State.storeBid_frame (s : State) (p : Nat) (i : AllocInput) :
    (s.storeBid p i).cc = s.cc ∧ (s.storeBid p i).straps = s.straps ∧ (s.storeBid p i).port = s.port
      ∧ (s.storeBid p i).otb = s.otb ∧ (s.storeBid p i).dcu = s.dcu := by
  rw [s.storeBid_eq p i]
  split
  · exact ⟨rfl, rfl, rfl, rfl, rfl⟩
  · simp [State.withBidSettled, State.withBid]

/-- Whether every other position is fresh is read from the table and the bids. -/
theorem State.allBidsFresh_congr {s u : State} (cc : u.cc = s.cc) (straps : u.straps = s.straps)
    (bids : u.hsu.bids = s.hsu.bids) : u.allBidsFresh = s.allBidsFresh := by
  have own : u.ownPosition = s.ownPosition := by
    rw [State.ownPosition, State.ownPosition, State.id, State.id, cc, straps]
  simp only [State.allBidsFresh, Hsu.freshBid, own, cc, bids]

theorem State.storeBid_allBidsFresh (s : State) (p : Nat) (i : AllocInput) :
    (s.storeBid p i).allBidsFresh = (s.withBid p i).allBidsFresh := by
  obtain ⟨a, r, hsu⟩ := s.storeBid_hsu p i
  obtain ⟨cc, straps, -⟩ := s.storeBid_frame p i
  exact State.allBidsFresh_congr cc straps (by rw [hsu]; rfl)

section Store

variable (s : State) (p : Nat) (i : AllocInput)

/-- A store of the same values that does not end settle starts nothing (R153). -/
theorem State.storeBid_quiet (unchanged : s.hsu.bidUnchanged p i = true)
    (runsOn : (s.storeBid p i).hsu.settle = s.hsu.settle) : (s.storeBid p i).hsu.alloc = s.hsu.alloc := by
  obtain ⟨a, r, hsu⟩ := s.storeBid_hsu p i
  rw [hsu] at runsOn
  have stays := (s.withBidSettled_settle p i).2.2.mp runsOn
  rw [s.storeBid_eq p i, unchanged, stays]
  rfl

/-- A store of other values, or one that ends settle, starts an allocation from the inputs with the bid (R153, R156,
R158). -/
theorem State.storeBid_starts (formed : s.cc.formState = .formed) (idle : s.hsu.alloc = none)
    (changes : s.hsu.bidUnchanged p i = false ∨ (s.storeBid p i).hsu.settle ≠ s.hsu.settle) :
    s.storeBid p i = (s.withBidSettled p i).startAllocation := by
  have triggers : ¬(s.hsu.bidUnchanged p i && !s.bidEndsSettle p i) = true := by
    obtain new | ended := changes
    · simp [new]
    · obtain ⟨a, r, hsu⟩ := s.storeBid_hsu p i
      rw [hsu] at ended
      have ends : s.bidEndsSettle p i ≠ false := mt (s.withBidSettled_settle p i).2.2.mpr ended
      simp [ends]
  rw [s.storeBid_eq p i, if_neg triggers]
  exact State.triggerAllocation_starts formed idle

end Store

/-! ### The statement -/

/-- Settles O55: the timers of the HSU, the inputs of an allocation, and the HEATBIDs taken. -/
theorem heatTimersRunOut : Obligations.HeatTimersRunOut := by
  refine ⟨?period, ?stale, ?settle, ?holdOver, ?timer, ?inputs, ?taken⟩
  case period =>
    intro s t hr formed expires
    refine ⟨_, exec_heatbidPeriod_due s t hr formed expires, rfl, rfl, rfl, rfl, rfl, rfl, rfl, rfl, rfl,
      fun sound => ?_⟩
    exact ⟨s.ownBid, sound.supply_submitHeatbid s.ownBid rfl, rfl, rfl, rfl⟩
  case stale =>
    intro s p b hr formed fresh
    have triggered := State.triggerAllocation_triggered
      ((s.advanceTo (b.receivedAt + Config.ms 3000)).setHsu (s.hsu.markStale p)) formed
    obtain ⟨a, r, hsu⟩ := triggered.hsu
    refine ⟨_, exec_bidStale_due s p b hr formed fresh, by simp, ?_, fun q other => ?_, ?_, ?_, by simp, by simp,
      by simp, by simp, triggered.busy, fun idle => ⟨_, triggered.idle idle, triggered.inputs.symm, rfl, ?_⟩⟩
    · rw [hsu]
      exact s.hsu.markStale_freshBid_same p
    · rw [hsu]
      exact s.hsu.markStale_freshBid_other p q other
    · rw [hsu]
      rfl
    · rw [hsu]
      rfl
    · rw [State.triggerAllocation_now]
      rfl
  case settle =>
    intro s t hr formed settle
    have triggered := State.triggerAllocation_triggered ((s.advanceTo t).setHsu { s.hsu with settle := none }) formed
    obtain ⟨a, r, hsu⟩ := triggered.hsu
    refine ⟨_, exec_settleExpiry_due s t hr formed settle, by simp, ?_, ?_, ?_, ?_, by simp, by simp, by simp, by simp,
      triggered.busy, fun idle => ⟨_, triggered.idle idle, triggered.inputs.symm, rfl, rfl⟩⟩ <;> rw [hsu] <;> rfl
  case holdOver =>
    intro s t hr holdOver g
    obtain ⟨stays, changes⟩ :=
      State.applyGrant_effect ((s.advanceTo t).setHsu { s.hsu with source := .limit, holdOver := none }) g
    exact ⟨_, exec_holdOverExpiry_due s t hr holdOver, by simp, by simp, by simp, by simp; rfl, by simp, by simp,
      by simp, by simp, stays, changes⟩
  case timer =>
    intro s t timer
    refine ⟨fun due formed => ?_, fun later => ?_⟩
    · rw [s.submitHeatbid.heatbidOccasion_formed formed, State.submitHeatbid_hsu, timer]
      dsimp only
      rw [owedAfter_due t _ _ due, Option.some_or]
    · rw [State.submitHeatbid_hsu]
      refine owedAfter_notDue _ _ _ fun d same => ?_
      obtain rfl := Option.some.inj (timer.symm.trans same)
      exact later
  case inputs =>
    intro s
    rw [s.allocInputs_eq_mapIdx]
    refine ⟨List.length_mapIdx, fun p e entry => ?_⟩
    rw [List.getElem?_mapIdx, entry, Nat.add_comm p 1]
    rfl
  case taken =>
    intro s f rest hr head kind number idle v
    obtain ⟨lhu, lau, fallen⟩ := (s.setRxp { s.rxp with queue := rest }).noteFall_eq rest.length
    have exec_eq := exec_frameTake_heatbid s f rest hr head kind number idle
    change v = _ at fallen
    change exec .frameTake s = .next (v.takeHeatbid f) at exec_eq
    rw [exec_eq, fallen]
    refine ⟨?stores, ?ignores⟩
    case stores =>
      intro p e formed member entry header other frost comfort offer same
      let i : AllocInput := { frost := frost, comfort := comfort, offer := offer }
      let w := ((s.setRxp { s.rxp with queue := rest }).setLhu lhu).setLau lau
      obtain ⟨a, r, hsu⟩ := w.storeBid_hsu p i
      obtain ⟨cc, -, port, otb, dcu⟩ := w.storeBid_frame p i
      obtain ⟨runs, ended, -⟩ := w.withBidSettled_settle p i
      have unchanged : same ↔ w.hsu.bidUnchanged p i = true := (w.hsu.bidUnchanged_iff p i).symm
      have settle : (w.storeBid p i).hsu.settle = (w.withBidSettled p i).hsu.settle := by rw [hsu]
      refine ⟨w.storeBid p i, congrArg Host.Outcome.next (w.takeHeatbid_stores f p e formed member entry header other),
        by rw [hsu]; rfl, fun running => ?_, fun past => settle.trans (ended past), fun equal runsOn => ?_,
        fun changes => ?_, by rw [hsu]; rfl, by rw [hsu]; rfl, cc, port, otb, dcu⟩
      · rw [settle, w.storeBid_allBidsFresh p i]
        exact runs running
      · exact (w.storeBid_quiet p i (unchanged.mp equal) runsOn).trans idle
      · have new := changes.imp_left (fun differs => Bool.eq_false_iff.mpr (mt unchanged.mpr differs))
        rw [w.storeBid_starts p i formed idle new]
        exact ⟨_, rfl, (State.startAllocation_allocInputs _).symm, rfl, rfl,
          congrArg (· + Config.ms 2) (w.withBidSettled_now p i)⟩
    case ignores =>
      exact fun ignored => congrArg Host.Outcome.next (State.takeHeatbid_ignores _ f ignored)

end Sys2Proof.Machine
end

section
/-! SUPPORT. The local port: the dispatcher's arms of its commands, the requests and their bytes, the counters, and
the byte codes of its records (R169, R170, R179 to R182, R184, R185). -/

namespace Sys2Proof.Machine

/-! ### The dispatcher, for the local port -/

theorem exec_status (s : State) : exec .status s = execStatus s := rfl

theorem exec_consistRead (start count : Byte) (s : State) :
    exec (.consistRead start count) s = execConsistRead start count s := rfl

theorem exec_noticeTake (s : State) : exec .noticeTake s = execNoticeTake s := rfl

theorem exec_counterRead (index : Byte) (s : State) : exec (.counterRead index) s = execCounterRead index s := rfl

theorem exec_counterDecrement (index : Byte) (amount : BitVec 16) (s : State) :
    exec (.counterDecrement index amount) s = execCounterDecrement index amount s := rfl

theorem exec_straps (s : State) : exec .straps s = execStraps s := rfl

theorem exec_unknownRequest (kind : Byte) (s : State) :
    exec (.unknownRequest kind) s = execUnknownRequest kind s := rfl

theorem exec_chipSelectFall (s : State) : exec .chipSelectFall s = execChipSelectFall s := rfl

theorem exec_chipSelectRise (s : State) : exec .chipSelectRise s = execChipSelectRise s := rfl

theorem exec_responseReady (s : State) : exec .responseReady s = execResponseReady s := rfl

theorem exec_isolateOn (leaf onOff : Byte) (s : State) :
    exec (.isolateOn leaf onOff) s = execIsolateOn leaf onOff s := rfl

theorem exec_isolateOff (leaf onOff : Byte) (s : State) :
    exec (.isolateOff leaf onOff) s = execIsolateOff leaf onOff s := rfl

/-! ### Numbers as bytes (R185) -/

/-- Byte i of a word's number is the word's bits from 8 i on. -/
theorem byteAt_toNat {w : Nat} (v : BitVec w) (i : Nat) : byteAt v.toNat i = v.extractLsb' (8 * i) 8 := rfl

theorem bytes16_toNat (v : BitVec 16) : bytes16 v.toNat = [v.extractLsb' 8 8, v.extractLsb' 0 8] := by
  rw [bytes16, byteAt_toNat, byteAt_toNat]

theorem bytes32_toNat (v : BitVec 32) :
    bytes32 v.toNat = [v.extractLsb' 24 8, v.extractLsb' 16 8, v.extractLsb' 8 8, v.extractLsb' 0 8] := by
  rw [bytes32, byteAt_toNat, byteAt_toNat, byteAt_toNat, byteAt_toNat]

theorem bytes16_append (a b : Byte) : bytes16 (a ++ b).toNat = [a, b] := by
  rw [bytes16_toNat, BitVec.extractLsb'_append_eq_left, BitVec.extractLsb'_append_eq_right]

/-- The number whose bits, from bit 0, are given flags. -/
theorem testBit_ofFlags (fs : List Bool) (i : Nat) :
    (fs.foldr (fun (f : Bool) acc => (if f then 1 else 0) + 2 * acc) 0).testBit i = fs.getD i false := by
  induction fs generalizing i with
  | nil => simp
  | cons f fs ih =>
    rw [List.foldr_cons]
    cases i with
    | zero => cases f <;> simp [Nat.testBit_zero]
    | succ i =>
      rw [List.getD_cons_succ, ← ih i, Nat.testBit_succ]
      congr 1
      split <;> omega

theorem flagsByte_getLsbD (fs : List Bool) (i : Nat) (h : i < 8) : (flagsByte fs).getLsbD i = fs.getD i false := by
  rw [flagsByte, BitVec.getLsbD_ofNat, testBit_ofFlags, decide_eq_true h, Bool.true_and]

theorem flagsByte_pair (a b : Bool) :
    flagsByte [a, b] = (if a then 0x01 else 0x00) + (if b then 0x02 else 0x00) := by
  cases a <;> cases b <;> rfl

theorem summaryByte_eq (x : SideSummary) :
    summaryByte x = (if x.secure then 0x01 else 0x00) + (if x.isOpen then 0x02 else 0x00)
      + BitVec.ofNat 8 x.faults * 4 := by
  rw [summaryByte, BitVec.ofNat_add, BitVec.ofNat_add, Nat.mul_comm, BitVec.ofNat_mul, apply_ite (BitVec.ofNat 8),
    apply_ite (BitVec.ofNat 8)]
  rfl

/-! ### Kind bytes (R184) -/

theorem Request.code_range (r : Request) : 1 ≤ r.code.toNat ∧ r.code.toNat ≤ 13 := by
  cases r <;> decide

theorem requestOf_code (r : Request) : requestOf r.code = some r := by
  cases r <;> rfl

theorem requestOf_unknown (b : Byte) (unknown : b = 0x00 ∨ 0x0E ≤ b.toNat) : requestOf b = none := by
  refine List.find?_eq_none.mpr fun r _ same => ?_
  obtain rfl := of_decide_eq_true same
  obtain ⟨first, last⟩ := r.code_range
  obtain zero | beyond := unknown
  · rw [zero] at first
    exact absurd first (by decide)
  · exact absurd (beyond.trans last) (by decide)

/-! ### The bytes of a request (R169, R184) -/

/-- A command that is a request: the kind byte and the arguments that it clocks in, and its owner's act at the
take. -/
structure IsRequest (i : Instr) (r : Request) (args : List Byte) (act : State → State × List Byte) : Prop where
  bytes : requestBytes i = r.code :: args
  count : args.length = r.argBytes
  exec_eq : ∀ s, exec i s = .next (s.onRequest i act)

theorem exists_isRequest (i : Instr) (request : isPortRequest i = true) (known : ∀ k, i ≠ .unknownRequest k) :
    ∃ r args act, IsRequest i r args act := by
  cases i
  case status => exact ⟨.status, [], _, rfl, rfl, exec_status⟩
  case consistRead start count => exact ⟨.consistRead, [start, count], _, rfl, rfl, exec_consistRead start count⟩
  case noticeTake => exact ⟨.noticeTake, [], _, rfl, rfl, exec_noticeTake⟩
  case doorIssueRelease action side lo hi =>
    exact ⟨.doorIssue, [action, side, lo, hi], _, rfl, rfl, exec_doorIssueRelease action side lo hi⟩
  case doorIssueClose action side lo hi =>
    exact ⟨.doorIssue, [action, side, lo, hi], _, rfl, rfl, exec_doorIssueClose action side lo hi⟩
  case isolateOn leaf onOff => exact ⟨.isolate, [leaf, onOff], _, rfl, rfl, exec_isolateOn leaf onOff⟩
  case isolateOff leaf onOff => exact ⟨.isolate, [leaf, onOff], _, rfl, rfl, exec_isolateOff leaf onOff⟩
  case heatDemand channel frost comfort =>
    exact ⟨.heatDemand, [channel, frost, comfort], _, rfl, rfl, exec_heatDemand channel frost comfort⟩
  case supplyOffer offer => exact ⟨.supplyOffer, bytes16 offer.toNat, _, rfl, rfl, exec_supplyOffer offer⟩
  case cabClaim code => exact ⟨.cab, [code], _, rfl, rfl, exec_cabClaim code⟩
  case cabRelease code => exact ⟨.cab, [code], _, rfl, rfl, exec_cabRelease code⟩
  case reform => exact ⟨.reform, [], _, rfl, rfl, exec_reform⟩
  case counterRead index => exact ⟨.counterRead, [index], _, rfl, rfl, exec_counterRead index⟩
  case counterDecrement index amount =>
    exact ⟨.counterDecrement, index :: bytes16 amount.toNat, _, rfl, rfl, exec_counterDecrement index amount⟩
  case lineReset => exact ⟨.lineReset, [], _, rfl, rfl, exec_lineReset⟩
  case straps => exact ⟨.straps, [], _, rfl, rfl, exec_straps⟩
  case unknownRequest kind => exact absurd rfl (known kind)
  all_goals cases request

theorem begins_iff (clocked bytes : List Byte) :
    begins clocked bytes = true ↔ clocked.length < bytes.length ∧ bytes.take clocked.length = clocked := by
  rw [begins, Bool.and_eq_true, decide_eq_true_iff, beq_iff_eq]

/-! ### Bytes that complete no request (R169; log entry 22) -/

theorem Port.clock_closed (p : Port) (b : Byte) (closed : p.phase = .idle ∨ p.phase = .response) : p.clock b = p := by
  unfold Port.clock
  obtain h | h := closed <;> rw [h]

theorem Port.clock_kind (p : Port) (r : Request) (phase : p.phase = .kind) (arguments : 1 ≤ r.argBytes) :
    p.clock r.code = { p with phase := .args [r.code] } := by
  unfold Port.clock
  rw [phase]
  dsimp only
  rw [requestOf_code]
  exact if_pos arguments

theorem Port.clock_args (p : Port) (r : Request) (clocked : List Byte) (b : Byte)
    (phase : p.phase = .args (r.code :: clocked)) (missing : clocked.length + 1 < r.argBytes) :
    p.clock b = { p with phase := .args (r.code :: clocked ++ [b]) } := by
  unfold Port.clock
  rw [phase]
  dsimp only [List.head?_cons, Option.bind_some]
  rw [requestOf_code]
  exact if_pos missing

/-- Arguments that complete no request join the bytes clocked in. -/
theorem Port.foldl_clock_args (p : Port) (r : Request) (clocked bs : List Byte)
    (phase : p.phase = .args (r.code :: clocked)) (missing : clocked.length + bs.length < r.argBytes) :
    bs.foldl Port.clock p = { p with phase := .args (r.code :: clocked ++ bs) } := by
  induction bs generalizing p clocked with
  | nil => rw [List.append_nil, ← phase]; rfl
  | cons b bs ih =>
    rw [List.length_cons] at missing
    rw [List.foldl_cons, p.clock_args r clocked b phase (by omega),
      ih _ (clocked ++ [b]) rfl (by rw [List.length_append, List.length_singleton]; omega)]
    simp

/-- A request's bytes, its last ones left out, are what the port counts. -/
theorem Port.foldl_clock_request (p : Port) (r : Request) (args : List Byte) (phase : p.phase = .kind)
    (missing : args.length < r.argBytes) :
    (r.code :: args).foldl Port.clock p = { p with phase := .args (r.code :: args) } := by
  rw [List.foldl_cons, p.clock_kind r phase (Nat.one_le_of_lt missing),
    Port.foldl_clock_args _ r [] args rfl (by rw [List.length_nil, Nat.zero_add]; exact missing)]
  rfl

theorem State.clockByte_running (s : State) (b : Byte) (running : s.inReset = false) :
    s.clockByte b = s.setPort (s.port.clock b) := by
  rw [State.clockByte, running]
  rfl

theorem State.clockByte_closed (s : State) (b : Byte) (closed : s.port.phase = .idle ∨ s.port.phase = .response) :
    s.clockByte b = s := by
  unfold State.clockByte
  rw [s.port.clock_closed b closed]
  exact ite_self s

theorem exec_unknownRequest_counts (s : State) (b : Byte) (running : s.inReset = false)
    (counts : s.port.phase ≠ .kind ∨ ∃ r, requestOf b = some r) :
    exec (.unknownRequest b) s = .next (s.setPort (s.port.clock b)) := by
  rw [exec_unknownRequest, execUnknownRequest, s.clockByte_running b running, if_neg]
  rintro ⟨phase, unknown⟩
  obtain other | ⟨r, known⟩ := counts
  · exact other phase
  · rw [known] at unknown
    cases unknown

/-! ### The take of a request (R169, R170) -/

/-- A request of the port is answered with what its owner's act answers, in the state that the act leaves. -/
theorem State.onRequest_answers {s : State} (hp : s.portOpen) (i : Instr) (act : State → State × List Byte) (t : State)
    (response : List Byte) (acts : act s = (t, response)) : s.onRequest i act = t.answered response := by
  obtain ⟨running, phase⟩ := hp
  rw [s.onRequest_open i act running phase, acts]
  rfl

/-- With no byte of it clocked in, a request is its owner's act and the preparing of its response. -/
theorem State.onRequest_takes {s : State} (hp : s.portOpen) (i : Instr) (act : State → State × List Byte) :
    s.onRequest i act = s.takeRequest act := by
  obtain ⟨running, phase⟩ := hp
  exact s.onRequest_open i act running phase

/-- Outside a transaction, and once a request was taken, no request acts. -/
theorem exec_request_closed (s : State) (i : Instr) (closed : s.port.phase = .idle ∨ s.port.phase = .response)
    (request : isPortRequest i = true) : exec i s = .next s := by
  by_cases unknown : ∃ k, i = .unknownRequest k
  · obtain ⟨k, rfl⟩ := unknown
    rw [exec_unknownRequest, execUnknownRequest, s.clockByte_closed k closed, s.onRequest_closed _ _ (.inr closed),
      ite_self]
  · obtain ⟨r, args, act, h⟩ := exists_isRequest i request fun k same => unknown ⟨k, same⟩
    rw [h.exec_eq, s.onRequest_closed i act (.inr closed)]

/-- In ARGS a request acts as with none of its bytes clocked in, if those clocked in begin its own (log entry 23). -/
theorem IsRequest.exec_args {i : Instr} {r : Request} {args : List Byte} {act : State → State × List Byte}
    (h : IsRequest i r args act) (s : State) (clocked : List Byte) (running : s.inReset = false)
    (phase : s.port.phase = .args clocked) :
    exec i s = if begins clocked (requestBytes i) then exec i (s.setPort { s.port with phase := .kind })
      else .next s := by
  rw [h.exec_eq, h.exec_eq, s.onRequest_args i act clocked running phase]
  exact apply_ite Host.Outcome.next _ _ _

end Sys2Proof.Machine
end

section
/-! The settled statement about the port's transactions (R169, R170, R184). -/

namespace Sys2Proof.Machine

/-! ### Chip select and the response (R169, R170) -/

theorem exec_chipSelectFall_high (s : State) (running : s.inReset = false) (high : s.pins.csLow = false) :
    exec .chipSelectFall s = .next ((s.setPins { s.pins with csLow := true }).setPort s.port.startTransaction) := by
  rw [exec_chipSelectFall, execChipSelectFall, high,
    State.inService_running (s.setPins { s.pins with csLow := true }) _ running]
  rfl

theorem exec_chipSelectRise_low (s : State) (running : s.inReset = false) (low : s.pins.csLow = true) :
    exec .chipSelectRise s = .next
      ((s.setPins { s.pins with csLow := false }).setPort
        { s.port with phase := .idle, response := [], ready := false, respBy := none }) := by
  rw [exec_chipSelectRise, execChipSelectRise, low,
    State.inService_running (s.setPins { s.pins with csLow := false }) _ running]
  rfl

theorem exec_unknownRequest_unknown {s : State} (hp : s.portOpen) (kind : Byte) (unknown : requestOf kind = none) :
    exec (.unknownRequest kind) s = .next (s.answered [0x01]) := by
  rw [exec_unknownRequest, execUnknownRequest, if_pos ⟨hp.2, Option.isNone_iff_eq_none.mpr unknown⟩,
    State.onRequest_answers hp _ _ s _ rfl]
  rfl

theorem exec_responseReady_prepared (s : State) (running : s.inReset = false)
    (prepared : s.port.phase = .response ∧ s.port.ready = false) :
    exec .responseReady s = .next (s.setPort { s.port with ready := true, respBy := none }) := by
  rw [exec_responseReady, execResponseReady, State.inService_running _ _ running, if_pos prepared]

theorem Port.readByte_waiting (p : Port) (i : Nat) (h : p.ready = false) : p.readByte i = 0xFF := by
  rw [Port.readByte, h]
  rfl

theorem Port.readByte_ready (p : Port) (i : Nat) (h : p.ready = true) : p.readByte i = p.response.getD i 0x00 := by
  rw [Port.readByte, h]
  rfl

/-! ### The statement -/

/-- Settles O60: a request's command is one of `IsRequest`, and the port counts what begins one. -/
theorem transactionsTakeOneRequest : Obligations.TransactionsTakeOneRequest := by
  refine ⟨fun s => ⟨exec_chipSelectFall_high s, exec_chipSelectRise_low s,
      fun kind hp unknown => exec_unknownRequest_unknown hp kind (requestOf_unknown kind unknown),
      fun running phase waits => exec_responseReady_prepared s running ⟨phase, waits⟩,
      fun i => ⟨s.port.readByte_waiting i, s.port.readByte_ready i⟩,
      fun closed i => exec_request_closed s i closed⟩,
    rfl, requestOf_code, requestOf_unknown, ?bytes, ⟨rfl, rfl, rfl, rfl, rfl⟩, ?operands, ?clocked, ?kindCounts,
    ?argCounts, ?begun, ?act, fun _ _ => rfl⟩
  case bytes =>
    intro i request known
    obtain ⟨r, args, act, h⟩ := exists_isRequest i request known
    exact ⟨r, args, h.bytes, h.count⟩
  case operands =>
    intro a b c d
    refine ⟨rfl, rfl, rfl, rfl, rfl, rfl, ?offer, rfl, rfl, rfl, ?decrement⟩
    case offer => exact congrArg (0x07 :: ·) (bytes16_append a b)
    case decrement => exact congrArg (0x0B :: a :: ·) (bytes16_append b c)
  case clocked =>
    intro p r args n phase _ _ missing
    rw [List.take_succ_cons]
    exact p.foldl_clock_request r (args.take n) phase ((List.length_take_le n args).trans_lt missing)
  case kindCounts =>
    intro s r running _
    exact exec_unknownRequest_counts s r.code running (.inr ⟨r, requestOf_code r⟩)
  case argCounts =>
    intro s clocked b running phase
    exact exec_unknownRequest_counts s b running (.inl (by rw [phase]; nofun))
  case begun =>
    intro i request known s clocked running phase
    obtain ⟨r, args, act, h⟩ := exists_isRequest i request known
    rw [h.exec_args s clocked running phase]
    exact ⟨fun short same => if_pos ((begins_iff _ _).mpr ⟨short, same⟩),
      fun other => if_neg (mt (begins_iff _ _).mp other)⟩
  case act =>
    intro i request known
    obtain ⟨r, args, act, h⟩ := exists_isRequest i request known
    exact ⟨act, fun s hp => by rw [h.exec_eq, State.onRequest_takes hp]⟩

end Sys2Proof.Machine
end

section
/-! The settled statements about the counters (R179 to R182). -/

namespace Sys2Proof.Machine

/-! ### An increment (R179, R180) -/

/-- The port with a counter one up, and no notice of it. -/
def Port.counted (p : Port) (i : Nat) : Port := { p with counters := p.counters.set i (p.counter i + 1) }

theorem Port.count_silent (p : Port) (i : Nat) (below : p.counter i ≠ 32767) : p.count i = p.counted i :=
  if_neg fun mark => below (BitVec.eq_of_toNat_eq (Nat.succ.inj mark))

theorem Port.count_alerts (p : Port) (i : Nat) (mark : p.counter i = 32767) :
    p.count i = (p.counted i).post (.counterAlert i) :=
  if_pos (congrArg (BitVec.toNat · + 1) mark)

/-! ### The requests (R181, R182) -/

theorem exec_counterRead_ok {s : State} (hp : s.portOpen) (index : Byte) (known : index.toNat ≤ 13) :
    exec (.counterRead index) s = .next (s.answered (0x00 :: bytes16 (s.port.counter index.toNat).toNat)) := by
  rw [exec_counterRead, execCounterRead, State.onRequest_answers hp _ _ _ _ (if_pos known)]
  rfl

theorem exec_counterRead_badIndex {s : State} (hp : s.portOpen) (index : Byte) (beyond : 13 < index.toNat) :
    exec (.counterRead index) s = .next (s.answered [0x04]) := by
  rw [exec_counterRead, execCounterRead, State.onRequest_answers hp _ _ s [0x04] (if_neg (Nat.not_le.mpr beyond))]

/-- Settles O58: the index names a counter, or it does not. -/
theorem counterReadAnswersValue : Obligations.CounterReadAnswersValue :=
  fun _ index hp => ⟨exec_counterRead_ok hp index, exec_counterRead_badIndex hp index⟩

/-- A decremented counter holds what the decrement leaves. -/
theorem Port.decrement_counter (p : Port) (i : Nat) (amount : BitVec 16) (h : i < p.counters.length) :
    ((p.decrement i amount).counter i).toNat = (p.counter i).toNat - amount.toNat := by
  have bound : (p.counter i).toNat - amount.toNat < 2 ^ 16 := (Nat.sub_le _ _).trans_lt (p.counter i).isLt
  have left : (p.decrement i amount).counter i = BitVec.ofNat 16 ((p.counter i).toNat - amount.toNat) := by
    simp [Port.counter, Port.decrement, List.getD_eq_getElem?_getD, h]
  rw [left, BitVec.toNat_ofNat, Nat.mod_eq_of_lt bound]

theorem exec_counterDecrement_badIndex {s : State} (hp : s.portOpen) (index : Byte) (amount : BitVec 16)
    (beyond : 13 < index.toNat) : exec (.counterDecrement index amount) s = .next (s.answered [0x04]) := by
  rw [exec_counterDecrement, execCounterDecrement,
    State.onRequest_answers hp _ _ s [0x04] (if_neg (Nat.not_le.mpr beyond))]

theorem exec_counterDecrement_ok {s : State} (hp : s.portOpen) (index : Byte) (amount : BitVec 16)
    (known : index.toNat ≤ 13) (held : index.toNat < s.port.counters.length) :
    exec (.counterDecrement index amount) s = .next
      ((s.setPort (s.port.decrement index.toNat amount)).answered
        (0x00 :: bytes16 ((s.port.counter index.toNat).toNat - amount.toNat))) := by
  rw [exec_counterDecrement, execCounterDecrement, ← s.port.decrement_counter index.toNat amount held,
    State.onRequest_answers hp _ _ _ _ (if_pos known)]
  rfl

/-- Settles O59: an increment posts at one value alone, and a decrement writes what it answers. -/
theorem countersCountAndDecrement : Obligations.CountersCountAndDecrement := by
  refine ⟨?increment, ?decrement⟩
  case increment =>
    intro s c length
    refine ⟨s.count_counter c length, fun j other => s.port.count_counter_other _ j other.symm, ?silent, ?posts, ?full⟩
    case silent =>
      intro below
      rw [s.count_eq, s.port.count_silent _ below]
      exact ⟨rfl, rfl⟩
    case posts =>
      intro mark room
      rw [s.count_eq, s.port.count_alerts _ mark, (s.port.counted c.index).post_notFull _ room]
      rfl
    case full =>
      intro mark full
      rw [s.count_eq, s.port.count_alerts _ mark, (s.port.counted c.index).post_full _ full]
      exact ⟨rfl, rfl⟩
  case decrement =>
    intro s index amount hp length
    refine ⟨exec_counterDecrement_badIndex hp index amount, fun known => ?_⟩
    exact exec_counterDecrement_ok hp index amount known (by rw [length]; exact Nat.lt_succ_of_le known)

end Sys2Proof.Machine
end

section
/-! The settled statement about the requests that read, and NOTICE_TAKE (R171, R172, R175, R177, R185). -/

namespace Sys2Proof.Machine

/-! ### STATUS (R171) -/

/-- The two mapping bytes, and what they are in each case (R56, R185). -/
theorem State.mappingBytes_eq (s : State) :
    ∃ left right, s.mappingBytes = [left, right]
      ∧ (s.trainLeft = none → left = 0xFF ∧ right = 0xFF)
      ∧ (∀ side, s.trainLeft = some side → left = sideCode side ∧ right = sideCode side.other) := by
  unfold State.mappingBytes
  cases s.trainLeft with
  | none => exact ⟨_, _, rfl, fun _ => ⟨rfl, rfl⟩, nofun⟩
  | some side => exact ⟨_, _, rfl, nofun, fun _ same => by cases same; exact ⟨rfl, rfl⟩⟩

theorem exec_status_answers {s : State} (hp : s.portOpen) :
    exec .status s = .next (s.answered (0x00 :: s.statusRecord)) := by
  rw [exec_status, execStatus, State.onRequest_answers hp _ _ s _ rfl]
  rfl

/-! ### STRAPS (R175) -/

theorem Straps.record_eq (st : Straps) :
    st.record = [coachTypeCode st.coachType, endCode st.cabEnd, BitVec.ofNat 8 st.leavesS1,
        BitVec.ofNat 8 st.leavesS2, sideCode st.sideRef, BitVec.ofNat 8 st.heatCh, BitVec.ofNat 8 st.heatKw,
        if st.rxPolicy = .keepOld then 0x00 else 0x01, if st.outPol = .activeHigh then 0x00 else 0x01]
      ++ bytes32 st.serial.toNat := by
  unfold Straps.record
  cases st.rxPolicy <;> cases st.outPol <;> rfl

theorem exec_straps_answers {s : State} (hp : s.portOpen) :
    exec .straps s = .next (s.answered (0x00 :: s.straps.record)) := by
  rw [exec_straps, execStraps, State.onRequest_answers hp _ _ s _ rfl]
  rfl

/-! ### CONSIST_READ (R172) -/

theorem exec_consistRead_ok {s : State} (hp : s.portOpen) (start count : Byte)
    (within : 1 ≤ start.toNat ∧ start.toNat ≤ 32 ∧ 1 ≤ count.toNat ∧ count.toNat ≤ 8) :
    exec (.consistRead start count) s = .next
      (s.answered (0x00 :: s.consistBytes start.toNat count.toNat)) := by
  rw [exec_consistRead, execConsistRead, State.onRequest_answers hp _ _ _ _ (if_pos within)]
  rfl

theorem exec_consistRead_badValue {s : State} (hp : s.portOpen) (start count : Byte)
    (out : ¬(1 ≤ start.toNat ∧ start.toNat ≤ 32 ∧ 1 ≤ count.toNat ∧ count.toNat ≤ 8)) :
    exec (.consistRead start count) s = .next (s.answered [0x02]) := by
  rw [exec_consistRead, execConsistRead, State.onRequest_answers hp _ _ s [0x02] (if_neg out)]

theorem ConsistTable.entryAt_succ (t : ConsistTable) (p : Nat) : t.entryAt (p + 1) = t.entries[p]? :=
  if_neg (Nat.succ_ne_zero p)

theorem ConsistTable.entryAt_beyond (t : ConsistTable) (p : Nat) (beyond : t.entries.length < p) :
    t.entryAt p = none := by
  obtain ⟨q, rfl⟩ := Nat.exists_eq_succ_of_ne_zero (Nat.ne_zero_of_lt beyond)
  rw [t.entryAt_succ, List.getElem?_eq_none_iff]
  exact Nat.le_of_lt_succ beyond

theorem State.entryBytes_empty (s : State) (p : Nat) (empty : s.cc.table.entryAt p = none) :
    s.entryBytes p = List.replicate 15 0 := by
  rw [State.entryBytes, empty]

theorem State.entryBytes_entry (s : State) (p : Nat) (e : TableEntry) (entry : s.cc.table.entryAt p = some e) :
    s.entryBytes p =
      [BitVec.ofNat 8 p] ++ bytes32 e.member.id.toNat
        ++ [orientationCode e.member.orientation, coachTypeCode e.member.coachType,
            cabResultCode e.member.cab, BitVec.ofNat 8 e.member.leavesS1, BitVec.ofNat 8 e.member.leavesS2,
            BitVec.ofNat 8 e.member.heaters, BitVec.ofNat 8 e.member.ratedHeat,
            flagsByte [e.member.supply, e.silent]]
        ++ bytes16 (s.sinceHeard e) := by
  rw [State.entryBytes, entry]

theorem State.entryBytes_length (s : State) (p : Nat) : (s.entryBytes p).length = 15 := by
  cases entry : s.cc.table.entryAt p with
  | none => rw [s.entryBytes_empty p entry, List.length_replicate]
  | some e => rw [s.entryBytes_entry p e entry]; rfl

/-! ### NOTICE_TAKE (R177) -/

theorem exec_noticeTake_none {s : State} (hp : s.portOpen) (empty : s.port.notices = []) :
    exec .noticeTake s = .next (s.answered [0, 0, 0, 0, 0, 0, 0]) := by
  rw [exec_noticeTake, execNoticeTake, State.onRequest_answers hp _ _ s (answer .ok ++ noneRecord) (by rw [empty])]
  rfl

theorem exec_noticeTake_head {s : State} (hp : s.portOpen) (n : Notice) (rest : List Notice)
    (head : s.port.notices = n :: rest) :
    exec .noticeTake s = .next ((s.setPort (s.port.takeNotice rest)).answered (0x00 :: n.record)) := by
  rw [exec_noticeTake, execNoticeTake,
    State.onRequest_answers hp _ _ (s.setPort (s.port.takeNotice rest)) (answer .ok ++ n.record) (by rw [head])]
  rfl

theorem Port.takeNotice_unmarked (p : Port) (rest : List Notice) (marker : p.lostMarker = false) :
    p.takeNotice rest = { p with notices := rest } := by
  rw [Port.takeNotice, marker]
  rfl

theorem Port.takeNotice_marked (p : Port) (rest : List Notice) (marker : p.lostMarker = true) :
    p.takeNotice rest = { p with notices := rest ++ [.noticesLost], lostMarker := false } :=
  if_pos marker

/-! ### The statement -/

/-- Settles O57: each record is written out byte by byte, and each answer is that of the request's own act. -/
theorem readRequestsAnswerRecords : Obligations.ReadRequestsAnswerRecords := by
  refine ⟨fun s hp => ⟨?status, ?straps, ?consistRead, ?entries, ?entry, exec_noticeTake_none hp, ?take, ?takeLost⟩,
    fun v w => ⟨bytes16_toNat v, bytes32_toNat w⟩, flagsByte_pair, fun x _ => summaryByte_eq x,
    ⟨rfl, rfl, rfl, rfl, rfl, rfl, rfl⟩, fun _ _ _ _ => rfl, rfl, rfl,
    fun _ => ⟨rfl, rfl, rfl, rfl, rfl, rfl, rfl, rfl⟩, fun _ => ⟨rfl, rfl, rfl⟩, rfl, rfl, rfl⟩
  case status =>
    obtain ⟨left, right, mapping, unknown, known⟩ := s.mappingBytes_eq
    refine ⟨s.statusRecord, exec_status_answers hp, ?_⟩
    unfold State.statusRecord
    rw [mapping]
    have flag := flagsByte_getLsbD [s.cc.table.stale, s.cc.table.partialFlag, s.dcu.secureOn, s.held, s.lhu.congested,
      s.port.lostMarker]
    exact ⟨rfl, rfl, flag 0 (by decide), flag 1 (by decide), flag 2 (by decide), flag 3 (by decide),
      flag 4 (by decide), flag 5 (by decide), flag 6 (by decide), flag 7 (by decide), rfl, rfl, rfl, rfl,
      unknown, known, rfl, rfl, rfl, rfl, rfl, rfl⟩
  case straps =>
    rw [exec_straps_answers hp, s.straps.record_eq]
    rfl
  case consistRead =>
    intro start count
    refine ⟨exec_consistRead_badValue hp start count, fun startMin startMax countMin countMax => ?_⟩
    exact exec_consistRead_ok hp start count ⟨startMin, startMax, countMin, countMax⟩
  case entries =>
    exact fun p => ⟨s.entryBytes_length p, fun beyond => s.entryBytes_empty p (s.cc.table.entryAt_beyond p beyond)⟩
  case entry =>
    intro p e entry
    rw [s.entryBytes_entry (p + 1) e ((s.cc.table.entryAt_succ p).trans entry), flagsByte_pair]
    rfl
  case take =>
    intro n rest head marker
    rw [exec_noticeTake_head hp n rest head, s.port.takeNotice_unmarked rest marker]
  case takeLost =>
    intro n rest head marker
    rw [exec_noticeTake_head hp n rest head, s.port.takeNotice_marked rest marker]

end Sys2Proof.Machine
end

section
/-! The settled statements about a step: the command at the front of the queue, or the node's own time (log entries
1, 3 and 4). -/

namespace Sys2Proof.Machine

variable {s : State}

/-! ### What a step does -/

theorem step_of_front {c : Instr} {rest : List Instr} (front : s.pending = c :: rest) :
    step s = exec c { s with pending := rest } := by
  rw [step, front]

theorem step_of_empty (empty : s.pending = []) : step s = .next s.idle := by
  rw [step, empty]

theorem State.idle_of_due {c : Instr} (due : s.firstDue = some c) : s.idle = { s with pending := [c] } := by
  rw [State.idle, due]

theorem State.idle_of_noneDue (due : s.firstDue = none) : s.idle = { s with now := s.now + 1 } := by
  rw [State.idle, due]
  rfl

theorem State.firstDue_inReset (held : s.inReset = true) : s.firstDue = none := if_pos held

/-- An own event acts at its occasion, an input in service, a request in a transaction, and the rest as they are
written: each answers a next state, with or without that. -/
theorem exec_answersNext (c : Instr) (s : State) : ∃ t, exec c s = .next t := by
  cases c with
  | debouncedContactActive | debouncedContactLost | endBeaconSend | faultyReception | beaconLoss | tstartExpiry
  | rollRepeat | gatherTimeout | tallyRepeat | tallyTimeout | memberSilent | transmitTake | breakthroughEligible
  | frameSent | collision | jamEnd | backoffExpiry | retryAttempt | frameTake | holdResend | ownHoldExpiry
  | holdExpiry | aMatch | bMatch | pwmCompareA | pwmPeriodEnd | leafInputFiltered | lockComplete | unlockFault
  | leafRecovery | doorcmdRepeat | doorstatPeriod | doorstatStale | heatbidPeriod | bidStale | settleExpiry
  | holdOverExpiry =>
    exact ⟨s.onOccasion _ _, rfl⟩
  | rawContactChange | endBeaconArrival | orderingEnd | carrierOnset | rawLeafInputChange | allocationEnd
  | responseReady =>
    exact ⟨State.inService _ _, rfl⟩
  | reform | cabClaim | cabRelease | lineReset | isolateOn | isolateOff | doorIssueRelease | doorIssueClose
  | heatDemand | supplyOffer | status | consistRead | noticeTake | counterRead | counterDecrement | straps =>
    exact ⟨s.onRequest _ _, rfl⟩
  | externalResetAssert | externalResetRelease | frameArrival | unknownRequest | chipSelectRise | chipSelectFall =>
    exact ⟨_, rfl⟩

theorem State.goesOn_always (s : State) : s.goesOn := by
  cases queue : s.pending with
  | nil => exact ⟨s.idle, step_of_empty queue⟩
  | cons c rest =>
    obtain ⟨t, next⟩ := exec_answersNext c { s with pending := rest }
    exact ⟨t, (step_of_front queue).trans next⟩

/-! ### The statements -/

/-- Settles O3: each command answers a next state, and a step runs a command or the node's own time. -/
theorem noCommandStops : Obligations.NoCommandStops := ⟨exec_answersNext, State.goesOn_always⟩

/-- Settles O1: by the queue's front. -/
theorem stepRunsFrontCommand : Obligations.StepRunsFrontCommand := fun _ _ _ front => step_of_front front

/-- Settles O2: an own event is due, or none is. -/
theorem emptyQueueLetsTimePass : Obligations.EmptyQueueLetsTimePass := by
  refine fun s empty => ⟨?_, State.firstDue_inReset⟩
  rw [step_of_empty empty]
  cases due : s.firstDue with
  | some c => rw [State.idle_of_due due]
  | none => rw [State.idle_of_noneDue due]

end Sys2Proof.Machine
end

section
/-! SUPPORT. What a command leaves of the bounded lists, of the leaves with their channels, and of the formation: the
calm operations add to no list but the notice queue and reach no leaf (R79, R81, R91, R95, R107, R132, R134, R177), and
the still ones leave the formation state and the timers that run in FORMED only (R28, R138, R150, R158). -/

namespace Sys2Proof.Machine

/-! ### The lists and the leaves that a state shows -/

/-- The bounded lists of a state, with the strap record, whose serial no hold entry names. -/
structure ListView where
  straps : Straps
  queue : List Frame
  holds : List HoldEntry
  schedule : List Issue
  dedup : List DedupEntry
  notices : List Notice
  marker : Bool

def State.listView (s : State) : ListView where
  straps := s.straps
  queue := s.rxp.queue
  holds := s.lhu.holds
  schedule := s.dcu.schedule
  dedup := s.dcu.dedup
  notices := s.port.notices
  marker := s.port.lostMarker

/-- The bound of the notice queue and its marker (R177). -/
def ListView.noticesBound (v : ListView) : Prop := v.notices.length ≤ 16 ∧ (v.marker = true → v.notices.length = 16)

/-- From one view to another nothing has joined a list but notices, within their bound. -/
structure ListView.Within (v w : ListView) : Prop where
  straps : w.straps = v.straps
  queue : w.queue.Sublist v.queue
  holds : w.holds.Sublist v.holds
  schedule : w.schedule.length ≤ v.schedule.length
  dedup : w.dedup = v.dedup
  notices : v.noticesBound → w.noticesBound

def ListsWithin (s t : State) : Prop := s.listView.Within t.listView

/-- The leaves, the copies of their summaries, and the leaf channels of the bank. -/
structure LeafView where
  leaves : Dlc
  side1 : SideSummary
  side2 : SideSummary
  bank : Nat
  channels : Nat → Option Channel

/-- The leaf channel of an index, if the bank has it. -/
def Otb.leafChannel? (o : Otb) (i : Nat) : Option Channel := if i < 8 then o.channel? i else none

def State.leafView (s : State) : LeafView where
  leaves := s.dlc
  side1 := s.dcu.side1
  side2 := s.dcu.side2
  bank := s.otb.channels.length
  channels := s.otb.leafChannel?

/-- From one state to another nothing has joined a list but notices, and the leaves with their channels are the
same. -/
structure Calm (s t : State) : Prop where
  lists : ListsWithin s t
  leaves : t.leafView = s.leafView

theorem ListsWithin.refl (s : State) : ListsWithin s s := ⟨rfl, .refl _, .refl _, Nat.le_refl _, rfl, id⟩

theorem ListsWithin.trans {s t u : State} (h : ListsWithin s t) (h' : ListsWithin t u) : ListsWithin s u :=
  ⟨h'.straps.trans h.straps, h'.queue.trans h.queue, h'.holds.trans h.holds, Nat.le_trans h'.schedule h.schedule,
    h'.dedup.trans h.dedup, h'.notices ∘ h.notices⟩

theorem Calm.refl (s : State) : Calm s s := ⟨.refl s, rfl⟩

theorem Calm.trans {s t u : State} (h : Calm s t) (h' : Calm t u) : Calm s u :=
  ⟨h.lists.trans h'.lists, h'.leaves.trans h.leaves⟩

/-- The timers that run in FORMED only: settle, the bid timer, and the DOORSTAT timer (R138, R150, R158). -/
def State.formationTimers (s : State) : Option Time × Option Time × Option Time :=
  (s.hsu.settle, s.hsu.bidTimer, s.dcu.doorstatTimer)

/-- From one state to another the formation state is the same, a computation runs in both or in neither, and outside
FORMED the timers of FORMED are the same. -/
structure Quiet (s t : State) : Prop where
  formState : t.cc.formState = s.cc.formState
  ordering : t.cc.ordering.isSome = s.cc.ordering.isSome
  timers : s.isFormed = false → t.formationTimers = s.formationTimers

theorem Quiet.refl (s : State) : Quiet s s := ⟨rfl, rfl, fun _ => rfl⟩

theorem Quiet.isFormed {s t : State} (h : Quiet s t) : t.isFormed = s.isFormed :=
  congrArg (fun f => decide (f = FormState.formed)) h.formState

theorem Quiet.trans {s t u : State} (h : Quiet s t) (h' : Quiet t u) : Quiet s u :=
  ⟨h'.formState.trans h.formState, h'.ordering.trans h.ordering,
    fun out => (h'.timers (h.isFormed.trans out)).trans (h.timers out)⟩

/-- A calm passage that is quiet too. -/
structure Still (s t : State) : Prop extends Calm s t, Quiet s t

theorem Still.refl (s : State) : Still s s := ⟨.refl s, .refl s⟩

theorem Still.trans {s t u : State} (h : Still s t) (h' : Still t u) : Still s u :=
  ⟨h.toCalm.trans h'.toCalm, h.toQuiet.trans h'.toQuiet⟩

/-- A still operation after a calm one. -/
theorem Calm.still {s t u : State} (h : Calm s t) (h' : Still t u) : Calm s u := h.trans h'.toCalm

section Still

variable {s t : State}

/-! ### The block updates -/

theorem Still.advanceTo (h : Still s t) (v : Time) : Still s (t.advanceTo v) :=
  ⟨⟨h.lists, h.leaves⟩, ⟨h.formState, h.ordering, h.timers⟩⟩

theorem Still.setPins (h : Still s t) (v : Pins) : Still s (t.setPins v) :=
  ⟨⟨h.lists, h.leaves⟩, ⟨h.formState, h.ordering, h.timers⟩⟩

theorem Still.setLau (h : Still s t) (v : Lau) : Still s (t.setLau v) :=
  ⟨⟨h.lists, h.leaves⟩, ⟨h.formState, h.ordering, h.timers⟩⟩

theorem Still.setEnd (h : Still s t) (e : CoachEnd) (l : EndLink) : Still s (t.setEnd e l) := by
  cases e <;> exact ⟨⟨h.lists, h.leaves⟩, ⟨h.formState, h.ordering, h.timers⟩⟩

theorem Still.setQueue (h : Still s t) {q : List Instr} : Still s { t with pending := q } :=
  ⟨⟨h.lists, h.leaves⟩, ⟨h.formState, h.ordering, h.timers⟩⟩

theorem Calm.setCc (h : Calm s t) (v : Cc) : Calm s (t.setCc v) := ⟨h.lists, h.leaves⟩

/-- A change of the CC that leaves its state and starts or ends no computation. -/
theorem Still.setCc (h : Still s t) {c : Cc} (formState : c.formState = t.cc.formState)
    (ordering : c.ordering = t.cc.ordering) : Still s (t.setCc c) :=
  h.trans ⟨⟨.refl t, rfl⟩, ⟨formState, congrArg Option.isSome ordering, fun _ => rfl⟩⟩

theorem Calm.setHsu (h : Calm s t) (v : Hsu) : Calm s (t.setHsu v) := ⟨h.lists, h.leaves⟩

/-- A change of the HSU that leaves settle and the bid timer, outside FORMED. -/
theorem Still.setHsu (h : Still s t) {v : Hsu}
    (timers : t.isFormed = false → v.settle = t.hsu.settle ∧ v.bidTimer = t.hsu.bidTimer) : Still s (t.setHsu v) := by
  refine h.trans ⟨⟨.refl t, rfl⟩, ⟨rfl, rfl, fun out => ?_⟩⟩
  obtain ⟨settle, bidTimer⟩ := timers out
  rw [State.formationTimers, State.setHsu_hsu, settle, bidTimer]
  rfl

/-- The queue loses frames at most. -/
theorem Still.setRxp (h : Still s t) {r : Rxp} (queue : r.queue.Sublist t.rxp.queue) : Still s (t.setRxp r) :=
  h.trans ⟨⟨⟨rfl, queue, .refl _, Nat.le_refl _, rfl, id⟩, rfl⟩, ⟨rfl, rfl, fun _ => rfl⟩⟩

/-- The hold list loses entries at most. -/
theorem Still.setLhu (h : Still s t) {l : Lhu} (holds : l.holds.Sublist t.lhu.holds) : Still s (t.setLhu l) :=
  h.trans ⟨⟨⟨rfl, .refl _, holds, Nat.le_refl _, rfl, id⟩, rfl⟩, ⟨rfl, rfl, fun _ => rfl⟩⟩

/-- The schedule loses issues at most, and the de-duplication table and the summaries stay. -/
theorem Calm.setDcu (h : Calm s t) {d : Dcu} (schedule : d.schedule.length ≤ t.dcu.schedule.length)
    (dedup : d.dedup = t.dcu.dedup) (side1 : d.side1 = t.dcu.side1) (side2 : d.side2 = t.dcu.side2) :
    Calm s (t.setDcu d) := by
  refine h.trans ⟨⟨rfl, .refl _, .refl _, schedule, dedup, id⟩, ?_⟩
  simp only [State.leafView, State.setDcu_dcu, side1, side2]
  rfl

/-- Outside FORMED the DOORSTAT timer stays too. -/
theorem Still.setDcu (h : Still s t) {d : Dcu} (schedule : d.schedule.length ≤ t.dcu.schedule.length)
    (dedup : d.dedup = t.dcu.dedup) (side1 : d.side1 = t.dcu.side1) (side2 : d.side2 = t.dcu.side2)
    (timer : t.isFormed = false → d.doorstatTimer = t.dcu.doorstatTimer) : Still s (t.setDcu d) := by
  refine ⟨h.toCalm.setDcu schedule dedup side1 side2, h.toQuiet.trans ⟨rfl, rfl, fun out => ?_⟩⟩
  rw [State.formationTimers, State.setDcu_dcu, timer out]
  rfl

/-- A change of the bank that leaves its length and the leaf channels. -/
theorem Still.setOtb (h : Still s t) {o : Otb} (bank : o.channels.length = t.otb.channels.length)
    (channels : ∀ i < 8, o.channel? i = t.otb.channel? i) : Still s (t.setOtb o) := by
  refine h.trans ⟨⟨.refl t, ?_⟩, ⟨rfl, rfl, fun _ => rfl⟩⟩
  have same : o.leafChannel? = t.otb.leafChannel? := by
    funext i
    unfold Otb.leafChannel?
    split
    case isTrue leaf => exact channels i leaf
    case isFalse => rfl
  simp only [State.leafView, State.setOtb_otb, bank, same]
  rfl

/-- A change of the port that keeps the bound of the notice queue. -/
theorem Still.setPort (h : Still s t) {p : Port}
    (bound : t.noticesSound → p.notices.length ≤ 16 ∧ (p.lostMarker = true → p.notices.length = 16)) :
    Still s (t.setPort p) :=
  h.trans ⟨⟨⟨rfl, .refl _, .refl _, Nat.le_refl _, rfl, bound⟩, rfl⟩, ⟨rfl, rfl, fun _ => rfl⟩⟩

/-! ### Notices, counters and submissions -/

theorem Port.post_bound (p : Port) (n : Notice)
    (h : p.notices.length ≤ 16 ∧ (p.lostMarker = true → p.notices.length = 16)) :
    (p.post n).notices.length ≤ 16 ∧ ((p.post n).lostMarker = true → (p.post n).notices.length = 16) := by
  obtain ⟨length, marker⟩ := h
  exact ⟨p.post_length n length, p.post_marker n length marker⟩

theorem Still.post (h : Still s t) (n : Notice) : Still s (t.post n) := h.setPort (t.port.post_bound n)

theorem Still.count (h : Still s t) (c : Counter) : Still s (t.count c) := by
  refine h.setPort fun bound => ?_
  unfold Port.count
  dsimp only
  split
  · exact Port.post_bound _ _ bound
  · exact bound

theorem Still.submitHold (h : Still s t) (ms : Nat) : Still s (t.submitHold ms) := h.setLau _
theorem Still.submitRoll (h : Still s t) : Still s t.submitRoll := h.setLau _
theorem Still.submitTally (h : Still s t) (x : Tally) : Still s (t.submitTally x) := h.setLau _
theorem Still.submitReform (h : Still s t) (r : ReformReason) : Still s (t.submitReform r) := h.setLau _

/-- A node that is FORMED is not outside FORMED. -/
theorem not_out_of_formed {P : Prop} (formed : t.isFormed = true) (out : t.isFormed = false) : P :=
  nomatch formed.symm.trans out

theorem Calm.submitDoorstat (h : Calm s t) : Calm s t.submitDoorstat :=
  (h.still ((Still.refl t).setLau _)).setDcu (Nat.le_refl _) rfl rfl rfl

theorem Still.submitDoorstat (h : Still s t) (formed : t.isFormed = true) : Still s t.submitDoorstat :=
  (h.setLau _).setDcu (Nat.le_refl _) rfl rfl rfl (not_out_of_formed formed)

theorem Calm.submitHeatbid (h : Calm s t) : Calm s t.submitHeatbid := (h.still ((Still.refl t).setLau _)).setHsu _

theorem Still.submitHeatbid (h : Still s t) (formed : t.isFormed = true) : Still s t.submitHeatbid :=
  (h.setLau _).setHsu (not_out_of_formed formed)

/-! ### Door status (R138 to R144) -/

theorem Still.evalDoorsSecure (h : Still s t) : Still s t.evalDoorsSecure := by
  unfold State.evalDoorsSecure
  split
  · exact h
  · refine Still.post ?_ _
    exact h.setDcu (Nat.le_refl _) rfl rfl rfl fun _ => rfl

theorem Calm.evalDoorsSecure (h : Calm s t) : Calm s t.evalDoorsSecure := h.still (Still.refl t).evalDoorsSecure

theorem Still.takeDoorstat (h : Still s t) (f : Frame) : Still s (t.takeDoorstat f) := by
  unfold State.takeDoorstat
  split
  · split
    · exact Still.evalDoorsSecure (h.setDcu (Nat.le_refl _) rfl rfl rfl fun _ => rfl)
    · exact h
  · exact h

theorem Calm.dcuLeaveFormed (h : Calm s t) : Calm s t.dcuLeaveFormed := by
  unfold State.dcuLeaveFormed
  exact Calm.evalDoorsSecure (h.setDcu (Nat.le_refl _) rfl rfl rfl)

theorem Calm.dcuFormedEntry (h : Calm s t) : Calm s t.dcuFormedEntry := by
  unfold State.dcuFormedEntry
  exact Calm.submitDoorstat (Calm.evalDoorsSecure (h.setDcu (Nat.le_refl _) rfl rfl rfl))

theorem Still.takeDoorstatExpiry (h : Still s t) (formed : t.isFormed = true) :
    Still s (t.setDcu t.dcu.takeDoorstatExpiry) := by
  unfold Dcu.takeDoorstatExpiry
  split <;> exact h.setDcu (Nat.le_refl _) rfl rfl rfl (not_out_of_formed formed)

/-! ### Heating (R147 to R166) -/

theorem Still.stagger (h : Still s t) (p n : Nat) : Still s (t.stagger p n) :=
  h.setOtb (t.otb.stagger_length _ p n) fun i leaf => t.otb.stagger_channel?_other _ p n i (.inl leaf)

theorem Still.convertDuties (h : Still s t) : Still s t.convertDuties :=
  (h.setOtb (t.otb.sendTargets_length _ _ _ _) fun i leaf =>
    t.otb.sendTargets_channel?_before _ _ _ _ i (by omega)).setHsu fun _ => ⟨rfl, rfl⟩

theorem Still.applyGrant (h : Still s t) (g : Grant) : Still s (t.applyGrant g) := by
  unfold State.applyGrant
  split
  · exact h
  · refine Still.convertDuties (Still.post ?_ _)
    exact h.setHsu fun _ => ⟨rfl, rfl⟩

theorem Still.triggerAllocation (h : Still s t) : Still s t.triggerAllocation := by
  unfold State.triggerAllocation
  split
  · split <;> exact h.setHsu fun _ => ⟨rfl, rfl⟩
  · exact h

/-- A bid that is stored ends settle at most (R152, R158). -/
theorem Still.storeBid (h : Still s t) (formed : t.isFormed = true) (p : Nat) (i : AllocInput) :
    Still s (t.storeBid p i) := by
  unfold State.storeBid
  dsimp only
  split
  · split
    · exact (h.setHsu (not_out_of_formed formed)).setHsu (not_out_of_formed formed)
    · exact h.setHsu (not_out_of_formed formed)
  · refine Still.triggerAllocation ?_
    split
    · exact (h.setHsu (not_out_of_formed formed)).setHsu (not_out_of_formed formed)
    · exact h.setHsu (not_out_of_formed formed)

theorem Still.takeHeatbid (h : Still s t) (f : Frame) : Still s (t.takeHeatbid f) := by
  unfold State.takeHeatbid
  split
  · split
    case isTrue accepted =>
      split
      · exact h.storeBid accepted.1 _ _
      · exact h
    case isFalse => exact h
  · exact h

theorem Still.endAllocation (h : Still s t) (a : Allocation) : Still s (t.endAllocation a) := by
  unfold State.endAllocation State.takeGrant
  dsimp only
  split
  · exact (h.setHsu fun _ => ⟨rfl, rfl⟩).setHsu fun _ => ⟨rfl, rfl⟩
  · split
    · exact h.setHsu fun _ => ⟨rfl, rfl⟩
    · split
      · refine Still.applyGrant ?_ _
        exact (h.setHsu fun _ => ⟨rfl, rfl⟩).setHsu fun _ => ⟨rfl, rfl⟩
      · exact h.setHsu fun _ => ⟨rfl, rfl⟩

theorem Still.ownValuesChanged (h : Still s t) (totals : Bool) : Still s (t.ownValuesChanged totals) := by
  have bid : Still s (if totals && t.isFormed then t.submitHeatbid.triggerAllocation else t) := by
    split
    case isTrue changed => exact (h.submitHeatbid (Bool.and_eq_true_iff.mp changed).2).triggerAllocation
    case isFalse => exact h
  unfold State.ownValuesChanged
  dsimp only
  generalize (if totals && t.isFormed then t.submitHeatbid.triggerAllocation else t) = u at bid ⊢
  refine Still.convertDuties ?_
  split
  · exact bid.applyGrant _
  · exact bid

theorem Still.heatDemandRequest (h : Still s t) (channel frost comfort : Byte) :
    Still s (t.heatDemandRequest channel frost comfort).1 := by
  unfold State.heatDemandRequest
  dsimp only
  split
  · exact h
  · split
    · exact h
    · split
      · exact h
      · refine Still.ownValuesChanged ?_ _
        exact h.setHsu fun _ => ⟨rfl, rfl⟩

theorem Still.supplyOfferRequest (h : Still s t) (offer : BitVec 16) : Still s (t.supplyOfferRequest offer).1 := by
  unfold State.supplyOfferRequest
  split
  · exact h.setHsu fun _ => ⟨rfl, rfl⟩
  · split
    · exact h
    · split
      · exact h
      · refine Still.ownValuesChanged ?_ _
        exact h.setHsu fun _ => ⟨rfl, rfl⟩

/-! ### Still operations in a calm passage -/

theorem Calm.setEnd (h : Calm s t) (e : CoachEnd) (l : EndLink) : Calm s (t.setEnd e l) :=
  h.still ((Still.refl t).setEnd e l)
theorem Calm.advanceTo (h : Calm s t) (v : Time) : Calm s (t.advanceTo v) := h.still ((Still.refl t).advanceTo v)
theorem Calm.post (h : Calm s t) (n : Notice) : Calm s (t.post n) := h.still ((Still.refl t).post n)
theorem Calm.count (h : Calm s t) (c : Counter) : Calm s (t.count c) := h.still ((Still.refl t).count c)
theorem Calm.submitRoll (h : Calm s t) : Calm s t.submitRoll := h.still (Still.refl t).submitRoll
theorem Calm.submitTally (h : Calm s t) (x : Tally) : Calm s (t.submitTally x) :=
  h.still ((Still.refl t).submitTally x)
theorem Calm.submitReform (h : Calm s t) (r : ReformReason) : Calm s (t.submitReform r) :=
  h.still ((Still.refl t).submitReform r)
theorem Calm.stagger (h : Calm s t) (p n : Nat) : Calm s (t.stagger p n) := h.still ((Still.refl t).stagger p n)
theorem Calm.triggerAllocation (h : Calm s t) : Calm s t.triggerAllocation :=
  h.still (Still.refl t).triggerAllocation

theorem Calm.hsuFormedEntry (h : Calm s t) : Calm s t.hsuFormedEntry := by
  have settling : Calm s (t.setHsu { t.hsu with bids := [] }).startSettle := (h.setHsu _).setHsu _
  exact (settling.stagger _ _).submitHeatbid.triggerAllocation

/-! ### Formation (R16 to R38, R173) -/

theorem Calm.tellLeft (h : Calm s t) (w : Bool) : Calm s (t.tellLeft w) := by
  unfold State.tellLeft
  split
  · exact h.dcuLeaveFormed.setHsu _
  · exact h

theorem Calm.testClosure (h : Calm s t) : Calm s t.testClosure := by
  unfold State.testClosure
  split
  · exact h.setCc _
  · exact h

theorem Calm.leaveForGather (h : Calm s t) (r : LeftReason) : Calm s (t.leaveForGather r) := by
  unfold State.leaveForGather
  split
  · exact h.post _
  · exact (h.post _).setCc _
  · exact h.setCc _
  all_goals exact h

theorem Calm.insertOwnRecord (h : Calm s t) : Calm s t.insertOwnRecord := h.setCc _

theorem Calm.enterGather (h : Calm s t) : Calm s t.enterGather :=
  (h.setCc _).insertOwnRecord.submitRoll.testClosure

theorem Calm.takeNumber (h : Calm s t) (n : FormationNumber) : Calm s (t.takeNumber n) := h.setCc _

theorem Calm.startFormation (h : Calm s t) (r : ReformReason) : Calm s (t.startFormation r) :=
  ((((h.takeNumber _).submitReform r).leaveForGather _).enterGather).tellLeft _

theorem Calm.adopt (h : Calm s t) (n : FormationNumber) (r : LeftReason) : Calm s (t.adopt n r) :=
  (((h.takeNumber _).leaveForGather _).enterGather).tellLeft _

theorem Still.hearMember (h : Still s t) (id : NodeId) (p : Nat) : Still s (t.hearMember id p) := by
  have heard : Still s (t.setCc { t.cc with table := t.cc.table.hear id t.now }) := h.setCc rfl rfl
  unfold State.hearMember
  dsimp only
  split
  · exact heard.post _
  · exact heard

theorem Calm.sight (h : Calm s t) (f : Frame) : Calm s (t.sight f) := by
  have heard (p : Nat) : Calm s (t.hearMember f.sender p) := h.still ((Still.refl t).hearMember f.sender p)
  unfold State.sight State.sightEqual
  split
  · exact h.adopt _ _
  · split
    · split
      · split
        · exact heard _
        · split
          · exact h
          · exact h.startFormation _
      · exact h
    · exact h

theorem Calm.enterFormed (h : Calm s t) (o : CandidateOrder) : Calm s (t.enterFormed o) := by
  have followed : Calm s (t.setCc (t.cc.commit o t.now)).followCab := by
    unfold State.followCab
    dsimp only
    split
    · exact ((h.setCc _).setCc _).post _
    · exact (h.setCc _).setCc _
  exact (followed.post _).dcuFormedEntry.hsuFormedEntry

theorem Calm.formIfAgreed (h : Calm s t) (o : CandidateOrder) : Calm s (t.formIfAgreed o) := by
  unfold State.formIfAgreed
  split
  · exact h.enterFormed o
  · exact h

theorem Calm.soloCab (h : Calm s t) : Calm s t.soloCab := by
  unfold State.soloCab
  split
  · exact h
  · exact h
  · exact (h.setCc _).post _

theorem Calm.writeSoloTable (h : Calm s t) : Calm s t.writeSoloTable := h.setCc _

theorem Calm.enterSolo (h : Calm s t) : Calm s t.enterSolo :=
  ((h.setCc _).soloCab.writeSoloTable.post _).stagger _ _

theorem Calm.failFormation (h : Calm s t) (r : ReformReason) : Calm s (t.failFormation r) := by
  unfold State.failFormation
  dsimp only
  split
  · exact ((h.count _).setCc _).enterSolo
  · exact ((h.count _).setCc _).startFormation r

theorem Calm.endOrdering (h : Calm s t) : Calm s t.endOrdering := by
  unfold State.endOrdering State.enterTally
  split
  · exact h.setCc _
  · dsimp only
    split
    · exact ((h.setCc _).submitTally _).failFormation _
    · exact (((h.setCc _).submitTally _).setCc _).formIfAgreed _
  · exact h

theorem Calm.takeTally (h : Calm s t) (f : Frame) : Calm s (t.takeTally f) := by
  have compared (x : Tally) : Calm s (t.compareTally f.sender x) := by
    unfold State.compareTally
    split
    · split
      · split
        · exact (h.setCc _).formIfAgreed _
        · exact h.failFormation _
      · exact h
    · exact h
  unfold State.takeTally
  split
  · exact h
  · split
    · exact h.setCc _
    · exact compared _
    all_goals exact h

theorem Calm.takeRoll (h : Calm s t) (f : Frame) : Calm s (t.takeRoll f) := by
  have gathered (r : RollRecord) : Calm s (t.gatherRoll r) := by
    unfold State.gatherRoll
    dsimp only
    split
    · split
      · exact h.setCc _
      · exact (h.setCc _).testClosure
    · split
      · exact h
      · exact (h.setCc _).post _
  have compared (r : RollRecord) : Calm s (t.compareRoll r) := by
    unfold State.compareRoll
    split
    · split
      · exact h
      · exact h.startFormation _
    · exact h
  unfold State.takeRoll
  split
  · exact h
  · split
    · exact gathered _
    · exact compared _
    · exact compared _
    all_goals exact h

theorem Calm.renewOwnRecord (h : Calm s t) : Calm s t.renewOwnRecord := by
  unfold State.renewOwnRecord
  split
  · exact h.insertOwnRecord.testClosure
  · exact h

theorem Calm.cabRequest (h : Calm s t) (code : Byte) : Calm s (t.cabRequest code).1 := by
  have accepted (claim : Bool) : Calm s (t.acceptCab claim) := by
    unfold State.acceptCab
    split
    · exact ((h.setCc _).writeSoloTable).post _
    · exact (h.setCc _).writeSoloTable
    all_goals exact (h.setCc _).startFormation _
  unfold State.cabRequest
  split
  · exact h
  · split
    · exact h
    · split
      · exact h
      · split
        · exact h
        · exact accepted _

theorem Calm.reportAdjacency (h : Calm s t) : Calm s t.reportAdjacency := by
  unfold State.reportAdjacency
  split
  · exact h
  all_goals exact h.startFormation _

/-! ### End links (R1, R6 to R10) -/

theorem Still.endFaulty (h : Still s t) (e : CoachEnd) : Still s (t.endFaulty e) := (h.setEnd e _).count _

theorem Still.endFaultyBy (h : Still s t) (e : CoachEnd) (v : Time) : Still s (t.endFaultyBy e v) := by
  unfold State.endFaultyBy
  split
  · split
    · exact (h.advanceTo _).endFaulty e
    · exact h
  · exact h

theorem Calm.receiveChar (h : Calm s t) (e : CoachEnd) (c : LineChar) : Calm s (t.receiveChar e c) := by
  have ended : Calm s (t.endFaultyBy e c.start) := h.still ((Still.refl t).endFaultyBy e c.start)
  have arrived {u : State} (hu : Calm s u) (bytes : List Byte) : Calm s (u.arriveBeacon e bytes) := by
    unfold State.arriveBeacon State.takeBeacon
    split
    · dsimp only
      split
      · exact hu.setEnd _ _
      · exact (hu.setEnd _ _).reportAdjacency
    · exact hu.count _
  unfold State.receiveChar
  split
  · exact h
  · dsimp only
    split
    · exact arrived ((ended.advanceTo _).setEnd _ _) _
    · exact (ended.advanceTo _).setEnd _ _

theorem Calm.receiveChars (h : Calm s t) (e : CoachEnd) (chars : List LineChar) : Calm s (t.receiveChars e chars) := by
  unfold State.receiveChars
  induction chars generalizing t with
  | nil => exact h
  | cons c cs ih => exact ih (h.receiveChar e c)

/-! ### The line (R63 to R93, R132, R133) -/

theorem updateFirst_length_le (test : Issue → Bool) (change : Issue → Option Issue) (is : List Issue) :
    (updateFirst test change is).length ≤ is.length := by
  induction is with
  | nil => exact Nat.le_refl _
  | cons i is ih =>
    unfold updateFirst
    split
    · split
      · exact Nat.le_refl _
      · exact Nat.le_succ _
    · exact Nat.succ_le_succ ih

theorem Still.setSchedule (h : Still s t) (test : Issue → Bool) (change : Issue → Option Issue) :
    Still s (t.setDcu { t.dcu with schedule := updateFirst test change t.dcu.schedule }) :=
  h.setDcu (updateFirst_length_le test change _) rfl rfl rfl fun _ => rfl

theorem Still.repeatCopy (h : Still s t) (seq : Byte) : Still s (t.repeatCopy seq) := by
  unfold State.repeatCopy
  split
  · exact h
  · exact (h.setLau _).setSchedule _ _

theorem Still.giveResult (h : Still s t) (f : Frame) (r : TxResult) : Still s (t.giveResult f r) := by
  have stale : Still s (t.copyStale f) := by
    unfold State.copyStale
    split
    · exact (h.setSchedule _ _).post _
    · exact h
  have sent : Still s (t.holdSent f) := by
    unfold State.holdSent
    dsimp only
    split
    · exact (h.count _).setLhu (.refl _)
    · split
      · exact (h.count _).setLhu (.refl _)
      · exact h.count _
  have lost : Still s (t.holdLost f) := by
    unfold State.holdLost
    split
    · exact h.submitHold _
    · exact h
  unfold State.giveResult
  split
  case h_1 | h_2 | h_3 => exact h.setSchedule _ _
  case h_4 => exact stale
  case h_5 => exact h.setHsu fun _ => ⟨rfl, rfl⟩
  case h_6 => exact sent
  case h_7 | h_8 => exact lost
  all_goals exact h

theorem Still.attempt (h : Still s t) (c : CurrentFrame) : Still s (t.attempt c) := by
  unfold State.attempt
  split
  · exact (h.setLau _).setRxp (.refl _)
  · exact (h.setLau _).giveResult _ _

theorem Still.takeCandidate (h : Still s t) : Still s t.takeCandidate := by
  unfold State.takeCandidate
  split
  · dsimp only
    split
    · exact ((h.setLau _).count _).attempt _
    · exact (h.setLau _).attempt _
  · exact h

theorem Still.afterJam (h : Still s t) (c : CurrentFrame) : Still s (t.afterJam c) := by
  have givenUp {u : State} (hu : Still s u) (f : Frame) (r : TxResult) : Still s (u.giveUp f r) := by
    refine Still.setLau (Still.giveResult ?_ f r) _
    unfold State.postAbandoned
    split
    · exact hu.post _
    · exact hu
  unfold State.afterJam
  split
  case h_1 => exact h.setLau _
  case h_2 =>
    dsimp only
    split
    · exact (h.count _).setLau _
    · exact h.setLau _
  case h_3 =>
    split
    · exact givenUp (h.count _) _ _
    · split
      · exact givenUp (h.count _) _ _
      · exact h.setLau _

theorem Still.noteRise (h : Still s t) (before after : Nat) : Still s (t.noteRise before after) := by
  unfold State.noteRise
  split
  · exact Still.submitHold (h.setLhu (l := { t.lhu with congested := true }) (.refl _)) _
  · exact h

theorem Still.noteFall (h : Still s t) (after : Nat) : Still s (t.noteFall after) := by
  unfold State.noteFall
  split
  · exact Still.submitHold
      (h.setLhu (l := { t.lhu with congested := false, ownHold := none, resend := none }) (.refl _)) _
  · exact h

theorem Still.lineReset (h : Still s t) : Still s t.lineReset := by
  have emptied : Still s ((t.setLau t.lau.lineReset).setRxp { receiving := false, queue := [] }) :=
    (h.setLau _).setRxp (List.nil_sublist _)
  exact (emptied.setLhu (List.nil_sublist _)).setDcu (Nat.zero_le _) rfl rfl rfl fun _ => rfl

end Still

end Sys2Proof.Machine
end

section
/-! SUPPORT. Which commands are still and which are calm, and how a fact about one state and the next is had of every
step (R169; log entries 1 to 3). -/

namespace Sys2Proof.Machine

/-! ### Facts that chain -/

/-- A relation between a state and a later one that still operations have and that chains. -/
structure Chains (R : State → State → Prop) : Prop where
  still : ∀ {s t : State}, Still s t → R s t
  trans : ∀ {s t u : State}, R s t → R t u → R s u

theorem still_chains : Chains Still := ⟨id, Still.trans⟩

theorem calm_chains : Chains Calm := ⟨Still.toCalm, Calm.trans⟩

/-- From a state to that of an outcome, if it is one, the relation holds. -/
def Leads (R : State → State → Prop) (s : State) (o : Host.Outcome State Fault Refusal) : Prop :=
  ∀ t, o = .next t → R s t

theorem Leads.next {R : State → State → Prop} {s t : State} (h : R s t) : Leads R s (.next t) := by
  intro u next
  exact Host.Outcome.next.inj next ▸ h

theorem Leads.imp {R R' : State → State → Prop} {s : State} {o : Host.Outcome State Fault Refusal}
    (h : Leads R s o) (imp : ∀ {t : State}, R s t → R' s t) : Leads R' s o :=
  fun t next => imp (h t next)

section Chains

variable {R : State → State → Prop} (chains : Chains R) {s : State}

include chains

theorem Chains.refl (s : State) : R s s := chains.still (.refl s)

/-- An event of the node's own, whose act has the relation at its occasion. -/
theorem Chains.at {o : Option Time} {act : State → State}
    (acts : ∀ t, o = some t → R (s.advanceTo t) (act (s.advanceTo t))) :
    Leads R s (.next (s.onOccasion o act)) := by
  refine .next ?_
  obtain same | ⟨t, occasion, -, acted⟩ := s.onOccasion_cases o act
  · rw [same]
    exact chains.refl s
  · rw [acted]
    exact chains.trans (chains.still ((Still.refl s).advanceTo t)) (acts t occasion)

theorem Chains.occasion {o : Option Time} {act : State → State} (acts : ∀ t : State, R t (act t)) :
    Leads R s (.next (s.onOccasion o act)) :=
  chains.at fun _ _ => acts _

/-- An event from outside, whose pin has changed already. -/
theorem Chains.service {t : State} {act : State → State} (pin : R s t) (acts : ∀ t : State, R t (act t)) :
    Leads R s (.next (t.inService act)) := by
  refine .next ?_
  cases hr : t.inReset
  · rw [t.inService_running act hr]
    exact chains.trans pin (acts t)
  · rw [t.inService_inReset act hr]
    exact pin

theorem Chains.takeRequest {act : State → State × List Byte} (acts : R s (act s).1) : R s (s.takeRequest act) :=
  chains.trans acts (chains.still ((Still.refl _).setPort id))

theorem Chains.request {i : Instr} {act : State → State × List Byte} (acts : ∀ t : State, R t (act t).1) :
    Leads R s (.next (s.onRequest i act)) := by
  refine .next ?_
  obtain same | taken | taken := s.onRequest_cases i act
  · rw [same]
    exact chains.refl s
  · rw [taken]
    exact chains.takeRequest (acts s)
  · rw [taken]
    have opened : Still s (s.setPort { s.port with phase := .kind }) := (Still.refl s).setPort id
    exact chains.trans (chains.still opened) (chains.takeRequest (acts _))

end Chains

/-! ### The still commands -/

/-- The commands that are still: those of the line, the heating, the local port, door status, and the ends as long as
no adjacency changes. -/
def isStill : Instr → Bool
  | .rawContactChange _ _ | .debouncedContactActive _ | .endBeaconSend _ | .faultyReception _ | .tallyRepeat
  | .memberSilent _ | .transmitTake | .breakthroughEligible | .carrierOnset | .frameSent | .collision _
  | .backoffExpiry | .jamEnd | .retryAttempt | .lineReset | .holdResend | .ownHoldExpiry | .holdExpiry _
  | .pwmCompareA _ | .pwmPeriodEnd _ | .doorcmdRepeat _ | .doorstatPeriod | .doorstatStale _ | .heatDemand _ _ _
  | .supplyOffer _ | .heatbidPeriod | .bidStale _ | .settleExpiry | .allocationEnd | .holdOverExpiry | .status
  | .straps | .consistRead _ _ | .counterRead _ | .noticeTake | .counterDecrement _ _ | .unknownRequest _
  | .chipSelectRise | .responseReady | .chipSelectFall => true
  | _ => false

/-- The commands that may change the formation, which are calm. -/
def isFormation : Instr → Bool
  | .debouncedContactLost _ | .beaconLoss _ | .endBeaconArrival _ _ | .tstartExpiry | .rollRepeat | .gatherTimeout
  | .orderingEnd | .tallyTimeout | .reform | .cabClaim _ | .cabRelease _ => true
  | _ => false

/-- The calm commands: all but external reset, the arrival and the take of a frame, the commands of the leaves, and
DOOR_ISSUE. -/
def isCalm (i : Instr) : Bool := isStill i || isFormation i

section Commands

variable (s : State)

theorem execTallyRepeat_still : Leads Still s (execTallyRepeat s) := by
  refine still_chains.occasion fun t => ?_
  split
  · refine Still.submitTally ?_ _
    exact (Still.refl t).setCc rfl rfl
  · exact .refl t

theorem execCarrierOnset_still : Leads Still s (execCarrierOnset s) := by
  refine still_chains.service ((Still.refl s).setPins _) fun t => ?_
  split
  · exact (Still.refl t).setRxp (.refl _)
  · exact .refl t

theorem execFrameSent_still : Leads Still s (execFrameSent s) := by
  refine still_chains.occasion fun t => ?_
  split
  · exact Still.giveResult ((((Still.refl t).count _).setLau _).setLau _) _ _
  · exact .refl t

theorem execJamEnd_still : Leads Still s (execJamEnd s) := by
  refine still_chains.occasion fun t => ?_
  split
  · exact Still.afterJam ((Still.refl t).setLau _) _
  · exact ((Still.refl t).setLau _).setLau _

theorem execRetryAttempt_still : Leads Still s (execRetryAttempt s) := by
  refine still_chains.occasion fun t => ?_
  split
  · exact (Still.refl t).attempt _
  · exact .refl t

/-- The channel of a heater event is no leaf channel (R95). -/
theorem heaterEvent_still (i : Nat) (at_ : Channel → Option Time) (f : Channel → Channel) :
    Leads Still s
      (.next (s.onOccasion (s.heaterChannelOccasion i at_) fun s => s.setOtb (s.otb.modify i f))) := by
  refine still_chains.at fun t occasion => ?_
  have heater : 8 ≤ i := by
    unfold State.heaterChannelOccasion at occasion
    split at occasion
    case isTrue heater => exact heater
    case isFalse => nomatch occasion
  exact (Still.refl _).setOtb (Otb.modify_length _ i f)
    fun j leaf => Otb.modify_channel?_other _ i j f (by omega)

theorem execAllocationEnd_still : Leads Still s (execAllocationEnd s) := by
  refine still_chains.service (.refl s) fun t => ?_
  split
  · exact (Still.refl t).endAllocation _
  · exact .refl t

/-- NOTICE_TAKE frees a place, which NOTICES_LOST takes (R177). -/
theorem Still.takeNotice (t : State) (n : Notice) (rest : List Notice) (queue : t.port.notices = n :: rest) :
    Still t (t.setPort (t.port.takeNotice rest)) := by
  refine (Still.refl t).setPort fun ⟨length, _⟩ => ?_
  rw [queue] at length
  unfold Port.takeNotice
  split
  · refine ⟨?_, nofun⟩
    rw [List.length_append]
    exact length
  · refine ⟨Nat.le_of_succ_le length, fun (marked : t.port.lostMarker = true) => absurd marked ?_⟩
    assumption

theorem execNoticeTake_still : Leads Still s (execNoticeTake s) := by
  refine still_chains.request fun t => ?_
  split
  case h_1 => exact .refl t
  case h_2 n rest queue => exact Still.takeNotice t n rest queue

theorem execCounterDecrement_still (index : Byte) (amount : BitVec 16) :
    Leads Still s (execCounterDecrement index amount s) := by
  refine still_chains.request fun t => ?_
  split
  · exact (Still.refl t).setPort id
  · exact .refl t

theorem execUnknownRequest_still (kind : Byte) : Leads Still s (execUnknownRequest kind s) := by
  have clocked (p : Port) (b : Byte) : (p.clock b).notices = p.notices ∧ (p.clock b).lostMarker = p.lostMarker := by
    unfold Port.clock
    split
    case h_3 | h_4 =>
      split
      · split <;> exact ⟨rfl, rfl⟩
      · exact ⟨rfl, rfl⟩
    all_goals exact ⟨rfl, rfl⟩
  unfold execUnknownRequest State.clockByte
  split
  · exact still_chains.request .refl
  · refine .next ?_
    split
    · exact .refl s
    · obtain ⟨notices, marker⟩ := clocked s.port kind
      refine (Still.refl s).setPort fun bound => ?_
      rw [notices, marker]
      exact bound

theorem execChipSelectRise_still : Leads Still s (execChipSelectRise s) := by
  unfold execChipSelectRise
  split
  · exact still_chains.service ((Still.refl s).setPins _) fun t => (Still.refl t).setPort id
  · exact .next (.refl s)

theorem execChipSelectFall_still : Leads Still s (execChipSelectFall s) := by
  unfold execChipSelectFall
  split
  · exact .next (.refl s)
  · exact still_chains.service ((Still.refl s).setPins _) fun t => (Still.refl t).setPort id

theorem execResponseReady_still : Leads Still s (execResponseReady s) := by
  refine still_chains.service (.refl s) fun t => ?_
  split
  · exact (Still.refl t).setPort id
  · exact .refl t

theorem execDoorstatPeriod_still : Leads Still s (execDoorstatPeriod s) := by
  refine still_chains.at fun t occasion => ?_
  have formed : s.isFormed = true := (Option.ite_none_right_eq_some.mp occasion).1
  exact Still.submitDoorstat ((Still.refl (s.advanceTo t)).takeDoorstatExpiry formed) formed

theorem execHeatbidPeriod_still : Leads Still s (execHeatbidPeriod s) := by
  refine still_chains.at fun t occasion => ?_
  have formed : s.isFormed = true := (Option.ite_none_right_eq_some.mp occasion).1
  exact Still.submitHeatbid ((Still.refl (s.advanceTo t)).setHsu (not_out_of_formed formed)) formed

theorem execSettleExpiry_still : Leads Still s (execSettleExpiry s) := by
  refine still_chains.at fun t occasion => ?_
  have formed : s.isFormed = true := (Option.ite_none_right_eq_some.mp occasion).1
  exact Still.triggerAllocation ((Still.refl (s.advanceTo t)).setHsu (not_out_of_formed formed))

theorem exec_still (i : Instr) (still : isStill i = true) : Leads Still s (exec i s) := by
  cases i with
  | rawContactChange => exact still_chains.service ((Still.refl s).setPins _) fun t => (Still.refl t).setEnd _ _
  | debouncedContactActive | endBeaconSend => exact still_chains.occasion fun t => (Still.refl t).setEnd _ _
  | faultyReception => exact still_chains.occasion fun t => (Still.refl t).endFaulty _
  | tallyRepeat => exact execTallyRepeat_still s
  | memberSilent =>
    refine still_chains.occasion fun t => Still.post ?_ _
    exact (Still.refl t).setCc rfl rfl
  | transmitTake => exact still_chains.occasion fun t => (Still.refl t).takeCandidate
  | breakthroughEligible => exact still_chains.occasion .refl
  | carrierOnset => exact execCarrierOnset_still s
  | frameSent => exact execFrameSent_still s
  | collision => exact still_chains.occasion fun t => ((Still.refl t).setLau _).count _
  | backoffExpiry => exact still_chains.occasion fun t => (Still.refl t).setLau _
  | jamEnd => exact execJamEnd_still s
  | retryAttempt => exact execRetryAttempt_still s
  | lineReset => exact still_chains.request fun t => (Still.refl t).lineReset
  | holdResend =>
    refine still_chains.occasion fun t => Still.submitHold ?_ _
    exact (Still.refl t).setLhu (.refl _)
  | ownHoldExpiry => exact still_chains.occasion fun t => (Still.refl t).setLhu (.refl _)
  | holdExpiry => exact still_chains.occasion fun t => (Still.refl t).setLhu List.filter_sublist
  | pwmCompareA i => exact heaterEvent_still s i _ _
  | pwmPeriodEnd i => exact heaterEvent_still s i _ _
  | doorcmdRepeat seq => exact still_chains.occasion fun t => (Still.refl t).repeatCopy seq
  | doorstatPeriod => exact execDoorstatPeriod_still s
  | doorstatStale p =>
    refine still_chains.occasion fun t => Still.evalDoorsSecure ?_
    exact (Still.refl t).setDcu (Nat.le_refl _) rfl rfl rfl fun _ => rfl
  | heatDemand channel frost comfort =>
    exact still_chains.request fun t => (Still.refl t).heatDemandRequest channel frost comfort
  | supplyOffer offer => exact still_chains.request fun t => (Still.refl t).supplyOfferRequest offer
  | heatbidPeriod => exact execHeatbidPeriod_still s
  | bidStale =>
    refine still_chains.occasion fun t => Still.triggerAllocation ?_
    exact (Still.refl t).setHsu fun _ => ⟨rfl, rfl⟩
  | settleExpiry => exact execSettleExpiry_still s
  | allocationEnd => exact execAllocationEnd_still s
  | holdOverExpiry =>
    refine still_chains.occasion fun t => Still.applyGrant ?_ _
    exact (Still.refl t).setHsu fun _ => ⟨rfl, rfl⟩
  | status | straps => exact still_chains.request .refl
  | consistRead | counterRead =>
    exact still_chains.request fun t => by split <;> exact .refl t
  | noticeTake => exact execNoticeTake_still s
  | counterDecrement index amount => exact execCounterDecrement_still s index amount
  | unknownRequest kind => exact execUnknownRequest_still s kind
  | chipSelectRise => exact execChipSelectRise_still s
  | responseReady => exact execResponseReady_still s
  | chipSelectFall => exact execChipSelectFall_still s
  | _ => nomatch still

theorem exec_calm (i : Instr) (calm : isCalm i = true) : Leads Calm s (exec i s) := by
  obtain still | formation := Bool.or_eq_true_iff.mp calm
  · exact (exec_still s i still).imp Still.toCalm
  · cases i with
    | debouncedContactLost | beaconLoss =>
      exact calm_chains.occasion fun t => Calm.reportAdjacency ((Calm.refl t).setEnd _ _)
    | endBeaconArrival e chars => exact calm_chains.service (.refl s) fun t => (Calm.refl t).receiveChars e chars
    | tstartExpiry => exact calm_chains.occasion fun t => (Calm.refl t).startFormation _
    | rollRepeat => exact calm_chains.occasion fun t => ((Calm.refl t).setCc _).submitRoll.renewOwnRecord
    | gatherTimeout => exact calm_chains.occasion fun t => (Calm.refl t).setCc _
    | orderingEnd => exact calm_chains.service (.refl s) fun t => (Calm.refl t).endOrdering
    | tallyTimeout => exact calm_chains.occasion fun t => (Calm.refl t).failFormation _
    | reform => exact calm_chains.request fun t => (Calm.refl t).startFormation _
    | cabClaim code | cabRelease code => exact calm_chains.request fun t => (Calm.refl t).cabRequest code
    | _ => nomatch formation

end Commands

/-! ### Every step -/

/-- On an empty queue an own event is queued, or a bit time passes. -/
theorem State.idle_still (s : State) : Still s s.idle := by
  unfold State.idle
  split
  · exact (Still.refl s).setQueue
  · exact ⟨⟨.refl s, rfl⟩, ⟨rfl, rfl, fun _ => rfl⟩⟩

/-- A chaining relation that every command has holds from each state to the next. -/
theorem Chains.step {R : State → State → Prop} (chains : Chains R)
    (commands : ∀ (s : State) (i : Instr), Leads R s (exec i s)) (s : State) : Leads R s (step s) := by
  intro t next
  unfold Machine.step at next
  split at next
  case h_1 i rest _ =>
    have taken : R s { s with pending := rest } := chains.still (Still.refl s).setQueue
    exact chains.trans taken (commands _ i t next)
  case h_2 =>
    obtain rfl := Host.Outcome.next.inj next
    exact chains.still s.idle_still

end Sys2Proof.Machine
end

section
/-! SUPPORT. What a command of one leaf can do: the leaf passes to a record that its channel agrees with, and the
summaries follow (R95, R107, R109, R111 to R125). -/

namespace Sys2Proof.Machine

/-! ### A leaf and its channel (R109, R119) -/

theorem leafAgrees_running_iff (l : Leaf) (c : Channel) (runs : l.state.runs = true) :
    leafAgrees l c
      ↔ c.mode = .sequence ∧ (c.output = true ↔ l.state = .closingDrive) ∧ c.compareA < c.compareB := by
  unfold leafAgrees
  rw [runs]
  constructor
  · rintro ⟨sequence, -, output, before⟩
    exact ⟨sequence.mpr rfl, output, before (sequence.mpr rfl)⟩
  · rintro ⟨sequence, output, before⟩
    exact ⟨by simp [sequence], by simp [sequence], output, fun _ => before⟩

theorem leafAgrees_resting_iff (l : Leaf) (c : Channel) (rests : l.state.runs = false) :
    leafAgrees l c ↔ c.mode = .off ∧ c.output = false := by
  have noDrive : l.state ≠ .closingDrive := fun drive => by
    rw [drive] at rests
    nomatch rests
  unfold leafAgrees
  rw [rests]
  constructor
  · rintro ⟨-, off, output, -⟩
    exact ⟨off.mpr rfl, Bool.eq_false_iff.mpr fun active => noDrive (output.mp active)⟩
  · rintro ⟨off, output⟩
    exact ⟨by simp [off], by simp [off], by simp [output, noDrive], fun sequence => nomatch off.symm.trans sequence⟩

/-- Agreement is with the leaf's state alone. -/
theorem leafAgrees_congr {l l' : Leaf} (c : Channel) (same : l'.state = l.state) :
    leafAgrees l' c ↔ leafAgrees l c := by
  rw [leafAgrees, leafAgrees, same]

/-- A channel that agrees with a leaf is inactive when it is OFF. -/
theorem leafAgrees.offInactive {l : Leaf} {c : Channel} (h : leafAgrees l c) (off : c.mode = .off) :
    c.output = false := by
  have ⟨_, rests, _, _⟩ := h
  exact ((leafAgrees_resting_iff l c (rests.mp off)).mp h).2

/-- A stop leaves an inactive channel in OFF (R100). -/
theorem Channel.stopRun_rests (c : Channel) (inactive : c.mode = .off → c.output = false) :
    c.stopRun.mode = .off ∧ c.stopRun.output = false := by
  unfold Channel.stopRun
  split
  case h_1 off => exact ⟨off, inactive off⟩
  all_goals exact ⟨rfl, rfl⟩

/-- A run of a close starts with its output inactive (R98). -/
theorem Channel.startRun_agrees (c : Channel) (now : Time) (a b : Nat) (l : Leaf) (positive : 0 < a) (before : a < b)
    (runs : l.state.runs = true) (noDrive : l.state ≠ .closingDrive) : leafAgrees l (c.startRun now a b) := by
  have later : matchesAtStart a b = false :=
    Bool.eq_false_iff.mpr fun start => Nat.ne_of_gt positive ((matchesAtStart_eq_true_iff a b).mp start).1
  refine (leafAgrees_running_iff l _ runs).mpr ⟨rfl, ?_, before⟩
  simp [Channel.startRun, later, noDrive]

/-! ### The order to a leaf's channel (R119) -/

/-- What an order does to the channel it is for. -/
def ChannelOrder.act (o : ChannelOrder) (now : Time) (c : Channel) : Channel :=
  match o with
  | .keep => c
  | .stop => c.stopRun
  | .start a b => c.startRun now a b

theorem Otb.order_channel? (o : Otb) (now : Time) (i j : Nat) (order : ChannelOrder) :
    (o.order now i order).channel? j = if i = j then (o.channel? j).map (order.act now) else o.channel? j := by
  cases order with
  | keep =>
    have kept : (o.channel? j).map (ChannelOrder.keep.act now) = o.channel? j := by
      cases o.channel? j <;> rfl
    rw [kept, ite_self]
    rfl
  | stop => exact o.modify_channel? i j _
  | start a b => exact o.modify_channel? i j _

theorem Otb.order_length (o : Otb) (now : Time) (i : Nat) (order : ChannelOrder) :
    (o.order now i order).channels.length = o.channels.length := by
  cases order with
  | keep => rfl
  | stop => exact o.modify_length i _
  | start a b => exact o.modify_length i _

/-! ### The summaries (R125, R137) -/

theorem State.settleLeaves_summaries (s : State) (indices : (s.dlc.leaves.map Leaf.index).Nodup) :
    s.settleLeaves.summariesCurrent := by
  have evaluated (t : State) :
      t.evalDoorsSecure.dcu.side1 = t.dcu.side1 ∧ t.evalDoorsSecure.dcu.side2 = t.dcu.side2 := by
    rw [State.evalDoorsSecure_dcu]
    exact ⟨rfl, rfl⟩
  rw [State.summariesCurrent, State.settleLeaves_dlc]
  refine ⟨indices, ?_⟩
  unfold State.settleLeaves
  dsimp only
  split
  case isTrue same => exact ⟨same.1.symm, same.2.symm⟩
  case isFalse =>
    rw [(evaluated _).1, (evaluated _).2]
    split <;> exact ⟨rfl, rfl⟩

/-- The lists are as bounded after a change of the summaries. -/
theorem ListsWithin.settleLeaves {s t : State} (h : ListsWithin s t) : ListsWithin s t.settleLeaves := by
  have copied (one two : SideSummary) : ListsWithin s (t.setDcu { t.dcu with side1 := one, side2 := two }) := h
  unfold State.settleLeaves
  dsimp only
  split
  · exact h
  · refine ListsWithin.trans ?_ (Calm.evalDoorsSecure (.refl _)).lists
    split
    · exact (copied _ _).trans (Calm.submitDoorstat (.refl _)).lists
    · exact copied _ _

/-- A change of the summaries starts the DOORSTAT timer in FORMED only (R138). -/
theorem Quiet.settleLeaves {s t : State} (h : Quiet s t) : Quiet s t.settleLeaves := by
  refine h.trans ⟨by rw [State.settleLeaves_cc], by rw [State.settleLeaves_cc], fun out => ?_⟩
  have timer : t.settleLeaves.dcu.doorstatTimer = t.dcu.doorstatTimer := by
    unfold State.settleLeaves
    dsimp only
    split
    · rfl
    · split
      case isTrue formed => nomatch out.symm.trans formed
      case isFalse => rw [State.evalDoorsSecure_dcu]; rfl
  rw [State.formationTimers, State.settleLeaves_hsu, timer]
  rfl

/-! ### The write of one leaf record -/

theorem Dlc.put_nodup (d : Dlc) (l' : Leaf) (h : (d.leaves.map Leaf.index).Nodup) :
    ((d.put l').leaves.map Leaf.index).Nodup := by
  have indices : (d.put l').leaves.map Leaf.index = d.leaves.map Leaf.index := d.put_indices l'
  rwa [indices]

/-- From a state to another a leaf has taken a record and its channel an action, and the summaries have followed. -/
structure LeafWritten (s t : State) (l' : Leaf) (f : Channel → Channel) : Prop where
  lists : ListsWithin s t
  quiet : Quiet s t
  dlc : t.dlc = s.dlc.put l'
  bank : t.otb.channels.length = s.otb.channels.length
  channels : ∀ i, t.otb.channel? i = if l'.index = i then (s.otb.channel? i).map f else s.otb.channel? i
  summaries : s.summariesCurrent → t.summariesCurrent

section Written

variable {s t : State} {l l' : Leaf} {f : Channel → Channel}

/-- The write of a record with an order; what follows in the port comes before the summaries. -/
theorem State.putLeaf_posted_written (s t : State) (l' : Leaf) (o : ChannelOrder) (posted : Still (s.putLeaf l' o) t)
    (otb : t.otb = s.otb.order s.now l'.index o) : LeafWritten s t.settleLeaves l' (o.act s.now) := by
  have dlc : t.dlc = s.dlc.put l' := congrArg LeafView.leaves posted.leaves
  have quiet : Quiet s t := ⟨posted.formState, posted.ordering, posted.timers⟩
  refine ⟨posted.lists.settleLeaves, quiet.settleLeaves, ?_, ?_, fun i => ?_, fun ⟨indices, _⟩ => ?_⟩
  · rw [State.settleLeaves_dlc, dlc]
  · rw [State.settleLeaves_otb, otb, Otb.order_length]
  · rw [State.settleLeaves_otb, otb, Otb.order_channel?]
  · exact State.settleLeaves_summaries t (dlc ▸ s.dlc.put_nodup l' indices)

theorem State.putLeaf_written (s : State) (l' : Leaf) (o : ChannelOrder) :
    LeafWritten s (s.putLeaf l' o).settleLeaves l' (o.act s.now) :=
  s.putLeaf_posted_written _ l' o (.refl _) rfl

theorem State.faultLeaf_written (s : State) (l : Leaf) (r : FaultReason) :
    LeafWritten s (s.faultLeaf l r) (l.enterFault s.now r) Channel.stopRun :=
  s.putLeaf_posted_written _ (l.enterFault s.now r) .stop (((Still.refl _).count _).post _) rfl

/-- With distinct indices a record of the same state in its place leaves the summaries. -/
theorem sideSummary_put (d : Dlc) (indices : (d.leaves.map Leaf.index).Nodup)
    (found : d.leaves.find? (fun x => x.index = l'.index) = some l) (same : l'.state = l.state) (side : Side) :
    sideSummary (d.put l').leaves side = sideSummary d.leaves side := by
  have member : l ∈ d.leaves := List.mem_of_find?_eq_some found
  have index : l.index = l'.index := by simpa using List.find?_some found
  have shown : (d.put l').leaves.map (fun x => (x.index, x.state)) = d.leaves.map (fun x => (x.index, x.state)) := by
    rw [Dlc.put, List.map_map]
    refine List.map_congr_left fun x hx => ?_
    by_cases here : x.index = l'.index
    · have only : x = l := List.inj_on_of_nodup_map indices hx member (here.trans index.symm)
      simp [only, index, same]
    · simp [here]
  have read (ls : List Leaf) : sideSummary ls side =
      (let here := (ls.map (fun x => (x.index, x.state))).filter (fun p => leafSide p.1 = side)
       { secure := here.all (fun p => p.2.isSecure)
         faults := (here.filter (fun p => p.2 = .fault)).length
         isOpen := here.any (fun p => p.2.isOpen) }) := by
    simp only [sideSummary, List.filter_map, List.all_map, List.any_map, List.length_map]
    rfl
  rw [read, read, shown]

/-- A record of the same state, whose channel has no order. -/
theorem State.setDlc_put_written (s : State) (found : s.leaf? l'.index = some l) (same : l'.state = l.state) :
    LeafWritten s (s.setDlc (s.dlc.put l')) l' fun c => c := by
  refine ⟨.refl s, ⟨rfl, rfl, fun _ => rfl⟩, rfl, rfl, fun i => ?_,
    fun ⟨indices, one, two⟩ => ⟨s.dlc.put_nodup l' indices, ?_, ?_⟩⟩
  · have kept : (s.otb.channel? i).map (fun c => c) = s.otb.channel? i := Option.map_id'
    rw [kept, ite_self]
    rfl
  · exact one.trans (sideSummary_put s.dlc indices found same .one).symm
  · exact two.trans (sideSummary_put s.dlc indices found same .two).symm

/-- The leaf's channel may have changed before the record is written (R99). -/
theorem LeafWritten.after {i : Nat} {g : Channel → Channel}
    (w : LeafWritten (s.setOtb (s.otb.modify i g)) t l' f) (index : l'.index = i) : LeafWritten s t l' (f ∘ g) := by
  obtain ⟨lists, ⟨formState, ordering, timers⟩, dlc, bank, channels, summaries⟩ := w
  refine ⟨lists, ⟨formState, ordering, timers⟩, dlc, bank.trans (s.otb.modify_length i g), fun j => ?_, summaries⟩
  rw [channels, State.setOtb_otb, Otb.modify_channel?, index]
  split <;> simp

end Written

/-! ### The passage of one leaf -/

/-- A leaf may pass to a record by an action on its channel: the reason stands in FAULT only, and the channel agrees
with the new state. -/
structure SoundPassage (l l' : Leaf) (f : Channel → Channel) : Prop where
  reason : (l.reason.isSome = true ↔ l.state = .fault) → (l'.reason.isSome = true ↔ l'.state = .fault)
  agrees : ∀ c, leafAgrees l c → leafAgrees l' (f c)

/-- A sound passage that is none to RELEASED. -/
structure Passage (l l' : Leaf) (f : Channel → Channel) : Prop extends SoundPassage l l' f where
  released : l'.state = .released → l.state = .released

/-- What an event keeps of the leaves. -/
structure LeafKept (s t : State) : Prop where
  lists : ListsWithin s t
  quiet : Quiet s t
  summaries : s.summariesCurrent → t.summariesCurrent
  reasons : s.faultReasonsSound → t.faultReasonsSound
  leaves : s.leavesSound → t.leavesSound

/-- An event that releases no leaf. -/
structure LeafEvent (s t : State) : Prop extends LeafKept s t where
  released : ∀ i m, t.leaf? i = some m → m.state = .released → ∃ l, s.leaf? i = some l ∧ l.state = .released

section Event

variable {s t : State} {l l' : Leaf} {f : Channel → Channel}

theorem LeafWritten.leaf? (w : LeafWritten s t l' f) (found : s.leaf? l'.index = some l) (i : Nat) :
    t.leaf? i = if i = l'.index then some l' else s.leaf? i := by
  have written := s.putLeaf_leaf? l l' .keep i found
  rwa [State.leaf?_of_dlc _ t (show (s.putLeaf l' .keep).dlc = t.dlc from w.dlc.symm)] at written

theorem LeafWritten.indices (w : LeafWritten s t l' f) : t.dlc.indices = s.dlc.indices := by
  rw [w.dlc, Dlc.put_indices]

theorem LeafWritten.leavesSound (w : LeafWritten s t l' f) (found : s.leaf? l'.index = some l)
    (p : Passage l l' f) (h : s.leavesSound) : t.leavesSound := by
  obtain ⟨bank, nodup, bound, agree⟩ := h
  have indices : t.dlc.leaves.map Leaf.index = s.dlc.leaves.map Leaf.index := w.indices
  refine ⟨w.bank.trans bank, indices ▸ nodup, ?_, fun i hi c hc => ?_⟩
  · intro x hx
    have among : x.index ∈ s.dlc.leaves.map Leaf.index := indices ▸ List.mem_map_of_mem hx
    obtain ⟨y, hy, same⟩ := List.mem_map.mp among
    exact same ▸ bound y hy
  · rw [w.channels] at hc
    rw [w.leaf? found i]
    by_cases here : l'.index = i
    · rw [if_pos here] at hc
      rw [if_pos here.symm]
      obtain ⟨d, hd, rfl⟩ := Option.map_eq_some_iff.mp hc
      have before := agree i hi d hd
      rw [← here, found] at before
      exact p.agrees d before
    · rw [if_neg here] at hc
      rw [if_neg (Ne.symm here)]
      exact agree i hi c hc

/-- The write of a leaf that may pass. -/
theorem LeafWritten.event (w : LeafWritten s t l' f) (found : s.leaf? l'.index = some l) (p : Passage l l' f) :
    LeafEvent s t := by
  refine ⟨⟨w.lists, w.quiet, w.summaries, fun h => ?_, w.leavesSound found p⟩, fun i m hm state => ?_⟩
  · intro x hx
    rw [w.dlc] at hx
    obtain ⟨y, hy, rfl⟩ := List.mem_map.mp hx
    split
    · exact p.reason (h l (List.mem_of_find?_eq_some found))
    · exact h y hy
  · rw [w.leaf? found i] at hm
    split at hm
    case isTrue here =>
      obtain rfl := Option.some.inj hm
      exact ⟨l, here ▸ found, p.released state⟩
    case isFalse => exact ⟨m, hm, state⟩

theorem Calm.dlc (h : Calm s t) : t.dlc = s.dlc := congrArg LeafView.leaves h.leaves

theorem Calm.leaf? (h : Calm s t) (i : Nat) : t.leaf? i = s.leaf? i := State.leaf?_of_dlc _ _ h.dlc i

theorem Calm.leafChannel? (h : Calm s t) (i : Nat) (leaf : i < 8) : t.otb.channel? i = s.otb.channel? i := by
  have same : t.otb.leafChannel? i = s.otb.leafChannel? i := congrFun (congrArg LeafView.channels h.leaves) i
  rwa [Otb.leafChannel?, Otb.leafChannel?, if_pos leaf, if_pos leaf] at same

/-- A calm passage keeps what is known of the leaves. -/
theorem Calm.leavesKept (h : Calm s t) : (s.summariesCurrent → t.summariesCurrent)
    ∧ (s.faultReasonsSound → t.faultReasonsSound) ∧ (s.leavesSound → t.leavesSound) := by
  have dlc := h.dlc
  have one : t.dcu.side1 = s.dcu.side1 := congrArg LeafView.side1 h.leaves
  have two : t.dcu.side2 = s.dcu.side2 := congrArg LeafView.side2 h.leaves
  have bank : t.otb.channels.length = s.otb.channels.length := congrArg LeafView.bank h.leaves
  refine ⟨fun sound => ?_, fun sound => ?_, fun ⟨length, nodup, bound, agree⟩ => ?_⟩
  · rw [State.summariesCurrent, dlc, one, two]
    exact sound
  · rw [State.faultReasonsSound, dlc]
    exact sound
  · refine ⟨bank.trans length, dlc ▸ nodup, dlc ▸ bound, fun i hi c hc => ?_⟩
    rw [h.leaf? i]
    exact agree i hi c (h.leafChannel? i hi ▸ hc)

theorem Still.leafEvent (h : Still s t) : LeafEvent s t := by
  obtain ⟨summaries, reasons, leaves⟩ := h.toCalm.leavesKept
  exact ⟨⟨h.lists, h.toQuiet, summaries, reasons, leaves⟩, fun i m hm state => ⟨m, h.toCalm.leaf? i ▸ hm, state⟩⟩

theorem leafEvent_chains : Chains LeafEvent where
  still := Still.leafEvent
  trans h h' :=
    { lists := h.lists.trans h'.lists
      quiet := h.quiet.trans h'.quiet
      summaries := h'.summaries ∘ h.summaries
      reasons := h'.reasons ∘ h.reasons
      leaves := h'.leaves ∘ h.leaves
      released := fun i m hm state =>
        have ⟨m', hm', state'⟩ := h'.released i m hm state
        h.released i m' hm' state' }

end Event

/-! ### The passages (R111 to R124) -/

section Passages

variable {l l' : Leaf}

/-- The state and the reason stay. -/
theorem Passage.stays (state : l'.state = l.state) (reason : l'.reason = l.reason) : Passage l l' fun c => c :=
  ⟨⟨by rw [state, reason]; exact fun h => h, fun c h => (leafAgrees_congr c state).mpr h⟩,
    fun released => state ▸ released⟩

/-- A stop takes the leaf to a state at rest. -/
theorem Passage.stops (rests : l'.state.runs = false) (reason : l'.reason.isSome = true ↔ l'.state = .fault)
    (locks : l'.state ≠ .released) : Passage l l' Channel.stopRun :=
  ⟨⟨fun _ => reason, fun c h => (leafAgrees_resting_iff l' _ rests).mpr (c.stopRun_rests h.offInactive)⟩,
    fun released => absurd released locks⟩

/-- A leaf at rest passes to another state at rest, its channel without an order. -/
theorem Passage.rests (rested : l.state.runs = false) (rests : l'.state.runs = false)
    (reason : l'.reason.isSome = true ↔ l'.state = .fault) (locks : l'.state ≠ .released) : Passage l l' fun c => c :=
  ⟨⟨fun _ => reason, fun c h => (leafAgrees_resting_iff l' c rests).mpr ((leafAgrees_resting_iff l c rested).mp h)⟩,
    fun released => absurd released locks⟩

/-- A state of a close is no FAULT, so the leaf has no reason. -/
theorem noReason_of_runs (runs : l.state.runs = true) (reason : l.reason.isSome = true ↔ l.state = .fault) :
    l.reason.isSome = false :=
  Bool.eq_false_iff.mpr fun isSome => by
    rw [reason.mp isSome] at runs
    nomatch runs

/-- An obstruction starts the run again (R116). -/
theorem Passage.reopens (runs : l.state.runs = true) (state : l'.state = .reopen) (reason : l'.reason = l.reason)
    (now : Time) (g : Channel → Channel) : Passage l l' ((ChannelOrder.start 2000 10000).act now ∘ g) := by
  refine ⟨⟨fun known => ?_, fun c _ => ?_⟩, fun released => nomatch state.symm.trans released⟩
  · rw [reason, noReason_of_runs runs known, state]
    simp
  · exact (g c).startRun_agrees now 2000 10000 l' (by decide) (by decide) (by rw [state]; rfl) (by rw [state]; nofun)

/-- The match of a run that is awaited makes the output active as the drive begins (R99, R114). -/
theorem Passage.drives (runs : l.state.runs = true) (state : l'.state = .closingDrive) (reason : l'.reason = l.reason) :
    Passage l l' fun c => { c with output := true } := by
  refine ⟨⟨fun known => ?_, fun c h => ?_⟩, fun released => nomatch state.symm.trans released⟩
  · rw [reason, noReason_of_runs runs known, state]
    simp
  · obtain ⟨sequence, -, before⟩ := (leafAgrees_running_iff l c runs).mp h
    exact (leafAgrees_running_iff l' _ (by rw [state]; rfl)).mpr ⟨sequence, by simp [state], before⟩

/-- A stop after another change of a running channel. -/
theorem Passage.stopsRunning (runs : l.state.runs = true) (rests : l'.state.runs = false)
    (reason : l'.reason.isSome = true ↔ l'.state = .fault) (locks : l'.state ≠ .released) (g : Channel → Channel)
    (off : ∀ c : Channel, c.mode = .sequence → (g c).mode = .off → (g c).output = false) :
    Passage l l' (Channel.stopRun ∘ g) := by
  refine ⟨⟨fun _ => reason, fun c h => ?_⟩, fun released => absurd released locks⟩
  obtain ⟨sequence, -, -⟩ := (leafAgrees_running_iff l c runs).mp h
  exact (leafAgrees_resting_iff l' _ rests).mpr ((g c).stopRun_rests (off c sequence))

end Passages

end Sys2Proof.Machine
end

section
/-! SUPPORT. The leaf events: the commands of one leaf, each as the passage that it is (R108, R114 to R124). -/

namespace Sys2Proof.Machine

/-! ### Obstructions and drives (R114, R116) -/

section Drive

variable {s : State} {l : Leaf} {i : Nat}

/-- An obstruction of a leaf whose run goes on, after a change of its channel that leaves it running. -/
theorem State.obstructLeaf_event (g : Channel → Channel) (l' : Leaf) (found : s.leaf? i = some l)
    (index : l'.index = i) (runs : l.state.runs = true) (reason : l'.reason = l.reason)
    (off : ∀ c : Channel, c.mode = .sequence → (g c).mode = .off → (g c).output = false) :
    LeafEvent s ((s.setOtb (s.otb.modify i g)).obstructLeaf l') := by
  have found' : s.leaf? l'.index = some l := index ▸ found
  by_cases few : l'.obstructions + 1 < 3
  · rw [State.obstructLeaf_reopens _ _ few]
    have written := State.putLeaf_written (s.setOtb (s.otb.modify i g))
      { l' with state := .reopen, watch := none, obstructions := l'.obstructions + 1 } (.start 2000 10000)
    refine (written.after index).event found' (Passage.reopens runs ?_ ?_ s.now g)
    · rfl
    · exact reason
  · rw [State.obstructLeaf_faults _ _ (Nat.not_lt.mp few)]
    have written := State.faultLeaf_written (s.setOtb (s.otb.modify i g))
      { l' with watch := none, obstructions := l'.obstructions + 1 } .obstructed
    exact (written.after index).event found'
      (Passage.stopsRunning runs rfl (by simp [Leaf.enterFault]) (by nofun) g off)

/-- The A-match that a leaf awaits begins its drive (R114). -/
theorem State.enterDrive_event (found : s.leaf? i = some l) (runs : l.state.runs = true) :
    LeafEvent s ((s.setOtb (s.otb.modify i fun c => { c with output := true })).enterDrive l) := by
  have index := s.leaf?_index i l found
  cases ob : l.ob with
  | true =>
    rw [State.enterDrive_obstructed _ l ob]
    exact State.obstructLeaf_event _ (l.drives s.now) found index runs rfl
      fun c sequence off => nomatch sequence.symm.trans off
  | false =>
    rw [State.enterDrive_clear _ l ob]
    have written := State.putLeaf_written (s.setOtb (s.otb.modify i fun c => { c with output := true }))
      (l.drives s.now) .keep
    have found' : s.leaf? l.index = some l := index ▸ found
    exact (written.after index).event found' (Passage.drives runs rfl rfl)

end Drive

/-! ### The matches (R99, R114, R118) -/

/-- A write of the bank alone, where the leaves and their channels do not agree. -/
theorem State.setOtb_event (s : State) (o : Otb) (disagree : ¬ s.leavesSound) : LeafEvent s (s.setOtb o) :=
  ⟨⟨.refl s, ⟨rfl, rfl, fun _ => rfl⟩, fun h => h, fun h => h, fun h => absurd h disagree⟩,
    fun _ m hm state => ⟨m, hm, state⟩⟩

theorem State.leafChannelOccasion_cases (s : State) (i : Nat) (at_ : Channel → Option Time) (t : Time)
    (h : s.leafChannelOccasion i at_ = some t) : ∃ c, i < 8 ∧ s.otb.channel? i = some c ∧ at_ c = some t := by
  unfold State.leafChannelOccasion at h
  split at h
  case isTrue leaf =>
    obtain ⟨c, hc, reached⟩ := Option.bind_eq_some_iff.mp h
    exact ⟨c, leaf, hc, reached⟩
  case isFalse => nomatch h

/-- A channel that runs belongs to a present leaf whose run it is. -/
theorem State.leavesSound.running {s : State} (h : s.leavesSound) {i : Nat} {c : Channel} (hi : i < 8)
    (hc : s.otb.channel? i = some c) (sequence : c.mode = .sequence) :
    ∃ l, s.leaf? i = some l ∧ l.state.runs = true ∧ (c.output = true ↔ l.state = .closingDrive)
      ∧ c.compareA < c.compareB := by
  obtain ⟨-, -, -, agree⟩ := h
  have here := agree i hi c hc
  cases found : s.leaf? i with
  | none =>
    rw [found] at here
    nomatch sequence.symm.trans here.1
  | some l =>
    rw [found] at here
    have runs := here.1.mp sequence
    obtain ⟨-, output, before⟩ := (leafAgrees_running_iff l c runs).mp here
    exact ⟨l, rfl, runs, output, before⟩

/-- The A-match that no leaf awaits reaches no leaf. -/
theorem State.takeAMatch_event (s : State) (i : Nat) (c : Channel) (hi : i < 8) (hc : s.otb.channel? i = some c)
    (sequence : c.mode = .sequence) (waiting : c.output = false) :
    LeafEvent s ((s.setOtb (s.otb.modify i fun c => { c with output := true })).takeAMatch i) := by
  have stray (other : ∀ l, s.leaf? i = some l → l.state.runs = true → l.state = .closingDrive) :
      LeafEvent s (s.setOtb (s.otb.modify i fun c => { c with output := true })) :=
    s.setOtb_event _ fun h => by
      obtain ⟨l, found, runs, output, -⟩ := h.running hi hc sequence
      nomatch waiting.symm.trans (output.mpr (other l found runs))
  unfold State.takeAMatch
  rw [State.setOtb_leaf?]
  split
  case h_1 l found =>
    split
    case h_1 state | h_2 state => exact State.enterDrive_event found (by rw [state]; rfl)
    all_goals
      refine stray fun l' found' runs => ?_
      obtain rfl := Option.some.inj (found.symm.trans found')
      simp_all [LeafState.runs]
  case h_2 none => exact stray fun l found => nomatch none.symm.trans found

/-- The B-match of a run faults the leaf that drives (R118). -/
theorem State.takeBMatch_event (s : State) (i : Nat) (c : Channel) (hi : i < 8) (hc : s.otb.channel? i = some c)
    (sequence : c.mode = .sequence) (driven : c.compareA < c.compareB → c.output = true) :
    LeafEvent s ((s.setOtb (s.otb.modify i Channel.stopRun)).takeBMatch i) := by
  have stray (other : ∀ l, s.leaf? i = some l → l.state ≠ .closingDrive) :
      LeafEvent s (s.setOtb (s.otb.modify i Channel.stopRun)) :=
    s.setOtb_event _ fun h => by
      obtain ⟨l, found, -, output, before⟩ := h.running hi hc sequence
      exact other l found (output.mp (driven before))
  unfold State.takeBMatch
  rw [State.setOtb_leaf?]
  split
  case h_1 l found =>
    have index := s.leaf?_index i l found
    split
    case h_1 state =>
      have found' : s.leaf? l.index = some l := index ▸ found
      have written := State.faultLeaf_written (s.setOtb (s.otb.modify i Channel.stopRun)) l .lockTimeout
      refine (written.after index).event found'
        (Passage.stopsRunning (by rw [state]; rfl) rfl (by simp [Leaf.enterFault]) (by nofun) Channel.stopRun ?_)
      exact fun c sequence _ => (c.stopRun_rests fun off => nomatch sequence.symm.trans off).2
    all_goals
      refine stray fun l' found' => ?_
      obtain rfl := Option.some.inj (found.symm.trans found')
      simp_all
  case h_2 none => exact stray fun l found => nomatch none.symm.trans found

theorem execAMatch_event (s : State) (i : Nat) : Leads LeafEvent s (execAMatch i s) := by
  refine leafEvent_chains.at fun t occasion => ?_
  obtain ⟨c, hi, hc, reached⟩ := s.leafChannelOccasion_cases i _ t occasion
  obtain ⟨⟨sequence, -, waiting⟩, -⟩ := Option.ite_none_right_eq_some.mp reached
  exact (s.advanceTo t).takeAMatch_event i c hi hc sequence waiting

theorem execBMatch_event (s : State) (i : Nat) : Leads LeafEvent s (execBMatch i s) := by
  refine leafEvent_chains.at fun t occasion => ?_
  obtain ⟨c, hi, hc, reached⟩ := s.leafChannelOccasion_cases i _ t occasion
  obtain ⟨⟨sequence, driven⟩, -⟩ := Option.ite_none_right_eq_some.mp reached
  exact (s.advanceTo t).takeBMatch_event i c hi hc sequence driven

/-! ### The inputs (R108, R115, R116, R120, R122) -/

theorem execRawLeafInputChange_event (s : State) (leaf : Nat) (input : LeafInput) (level : Bool) :
    Leads LeafEvent s (execRawLeafInputChange leaf input level s) := by
  refine leafEvent_chains.service ((Still.refl s).setPins _).leafEvent fun t => ?_
  split
  case h_1 l found =>
    have index := t.leaf?_index leaf l found
    have found' : t.leaf? (l.filterRaw input level t.now).index = some l := by
      cases input <;> exact index ▸ found
    have same : (l.filterRaw input level t.now).state = l.state
        ∧ (l.filterRaw input level t.now).reason = l.reason := by
      cases input <;> exact ⟨rfl, rfl⟩
    exact (t.setDlc_put_written found' same.1).event found' (Passage.stays same.1 same.2)
  case h_2 => exact leafEvent_chains.refl t

theorem Otb.modify_keep (o : Otb) (i : Nat) : o.modify i (fun c => c) = o := by
  rw [Otb.modify]
  exact congrArg Otb.mk (List.modify_id i o.channels)

theorem State.takeClChange_event (s : State) (l : Leaf) (found : s.leaf? l.index = some l) :
    LeafEvent s (s.takeClChange l) := by
  unfold State.takeClChange
  dsimp only
  refine (s.setDlc_put_written (l := l) ?found ?state).event (l := l) ?found (Passage.stays ?state ?reason)
  case found => exact found
  case state | reason => rfl

theorem State.takeObChange_event (s : State) (l : Leaf) (found : s.leaf? l.index = some l) :
    LeafEvent s (s.takeObChange l) := by
  unfold State.takeObChange
  dsimp only
  split
  case isTrue obstructs =>
    have event := State.obstructLeaf_event (fun c => c) { l with ob := !l.ob, obFilter := none } found rfl
      (by rw [obstructs.2]; rfl) rfl fun c sequence off => nomatch sequence.symm.trans off
    rwa [Otb.modify_keep] at event
  case isFalse =>
    exact (s.setDlc_put_written (l' := { l with ob := !l.ob, obFilter := none }) found rfl).event found
      (Passage.stays rfl rfl)

theorem execLeafInputFiltered_event (s : State) (leaf : Nat) (input : LeafInput) :
    Leads LeafEvent s (execLeafInputFiltered leaf input s) := by
  refine leafEvent_chains.occasion fun t => ?_
  split
  case h_1 l found =>
    have found' : t.leaf? l.index = some l := t.leaf?_index leaf l found ▸ found
    exact t.takeClChange_event l found'
  case h_2 l found => exact t.takeObChange_event l (t.leaf?_index leaf l found ▸ found)
  case h_3 => exact leafEvent_chains.refl t

/-! ### The watches run out (R115, R120, R122) -/

theorem State.faultLeaf_event (s : State) (l : Leaf) (r : FaultReason) (found : s.leaf? l.index = some l) :
    LeafEvent s (s.faultLeaf l r) :=
  (s.faultLeaf_written l r).event found (Passage.stops rfl (by simp [Leaf.enterFault]) nofun)

theorem execLockComplete_event (s : State) (leaf : Nat) : Leads LeafEvent s (execLockComplete leaf s) := by
  refine leafEvent_chains.occasion fun t => ?_
  split
  case h_1 l found =>
    have found' : t.leaf? l.index = some l := t.leaf?_index leaf l found ▸ found
    exact (t.putLeaf_written (l.enterLocked t.now) .stop).event found'
      (Passage.stops rfl (by simp [Leaf.enterLocked]) nofun)
  case h_2 => exact leafEvent_chains.refl t

theorem execUnlockFault_event (s : State) (leaf : Nat) : Leads LeafEvent s (execUnlockFault leaf s) := by
  refine leafEvent_chains.occasion fun t => ?_
  split
  case h_1 l found => exact t.faultLeaf_event l _ (t.leaf?_index leaf l found ▸ found)
  case h_2 => exact leafEvent_chains.refl t

/-- The occasion of a CL watch is that of a present leaf in the state whose watch it is. -/
theorem State.watchOccasion_cases (s : State) (i : Nat) (st : LeafState) (span t : Time)
    (h : s.watchOccasion i st span = some t) :
    ∃ l w, s.leaf? i = some l ∧ l.state = st ∧ l.watch = some w ∧ t = w + span := by
  obtain ⟨l, found, reached⟩ := Option.bind_eq_some_iff.mp h
  obtain ⟨state, reached⟩ := Option.ite_none_right_eq_some.mp reached
  obtain ⟨w, watch, rfl⟩ := Option.map_eq_some_iff.mp reached
  exact ⟨l, w, found, state, watch, rfl⟩

theorem execLeafRecovery_event (s : State) (leaf : Nat) : Leads LeafEvent s (execLeafRecovery leaf s) := by
  refine leafEvent_chains.at fun t occasion => ?_
  obtain ⟨l, -, found, state, -, -⟩ := s.watchOccasion_cases leaf _ _ t occasion
  have index := s.leaf?_index leaf l found
  have found' : (s.advanceTo t).leaf? l.index = some l := index ▸ found
  rw [← index]
  simp only [found']
  have written := (s.advanceTo t).putLeaf_posted_written
    (((s.advanceTo t).putLeaf (l.enterLocked (s.advanceTo t).now) .keep).post (.leafRecovered l.index))
    (l.enterLocked (s.advanceTo t).now) .keep ((Still.refl _).post _) rfl
  exact written.event found' (Passage.rests (by rw [state]; rfl) rfl (by simp [Leaf.enterLocked]) nofun)

/-! ### Isolation (R123, R124) -/

theorem State.endIsolation_event (s : State) (l : Leaf) (found : s.leaf? l.index = some l) :
    LeafEvent s (s.endIsolation l) := by
  unfold State.endIsolation
  split
  case isTrue state =>
    split
    · exact (s.putLeaf_written (l.enterLocked s.now) .keep).event found
        (Passage.rests (by rw [state]; rfl) rfl (by simp [Leaf.enterLocked]) nofun)
    · exact s.faultLeaf_event l _ found
  case isFalse => exact leafEvent_chains.refl s

theorem State.isolateRequest_event (s : State) (leaf onOff : Byte) : LeafEvent s (s.isolateRequest leaf onOff).1 := by
  unfold State.isolateRequest
  split
  case h_1 | h_2 => exact leafEvent_chains.refl s
  case h_3 l _ found =>
    have found' : s.leaf? l.index = some l := s.leaf?_index _ l found ▸ found
    exact (s.putLeaf_written l.isolate .stop).event found' (Passage.stops rfl (by simp [Leaf.isolate]) nofun)
  case h_4 l _ found => exact s.endIsolation_event l (s.leaf?_index _ l found ▸ found)

end Sys2Proof.Machine
end

section
/-! SUPPORT. What a RELEASE or a CLOSE at the leaves of some sides can do: each leaf and its channel take the passage
(R110 to R113, R119). -/

namespace Sys2Proof.Machine

/-! ### The leaves of some sides -/

section Pass

variable (s : State) (sides : List Side) {p : Leaf → Leaf × ChannelOrder}

/-- What a command at the leaves of some sides makes of a leaf. -/
def passedLeaf (sides : List Side) (p : Leaf → Leaf × ChannelOrder) (l : Leaf) : Leaf :=
  if sides.contains (leafSide l.index) then (p l).1 else l

/-- What it does to the leaf's channel. -/
def passedOrder (sides : List Side) (p : Leaf → Leaf × ChannelOrder) (l : Leaf) : ChannelOrder :=
  if sides.contains (leafSide l.index) then (p l).2 else .keep

theorem State.passLeaves_leaves : (s.passLeaves sides p).dlc.leaves = s.dlc.leaves.map (passedLeaf sides p) := rfl

theorem passedLeaf_index (index : ∀ l, (p l).1.index = l.index) (l : Leaf) :
    (passedLeaf sides p l).index = l.index := by
  unfold passedLeaf
  split
  · exact index l
  · rfl

theorem State.passLeaves_indices (index : ∀ l, (p l).1.index = l.index) :
    (s.passLeaves sides p).dlc.leaves.map Leaf.index = s.dlc.leaves.map Leaf.index := by
  rw [State.passLeaves_leaves, List.map_map]
  exact List.map_congr_left fun l _ => passedLeaf_index sides index l

theorem State.passLeaves_leaf? (index : ∀ l, (p l).1.index = l.index) (i : Nat) :
    (s.passLeaves sides p).leaf? i = (s.leaf? i).map (passedLeaf sides p) := by
  rw [State.leaf?, State.passLeaves_leaves, List.find?_map, State.leaf?]
  refine congrArg (Option.map _) (congrArg (List.find? · _) ?_)
  funext l
  rw [Function.comp_apply, passedLeaf_index sides index]

/-- Orders to the channels of some leaves keep the bank's length. -/
theorem Otb.foldl_order_length (now : Time) (order : Leaf → ChannelOrder) (ls : List Leaf) (o : Otb) :
    (ls.foldl (fun o l => o.order now l.index (order l)) o).channels.length = o.channels.length := by
  induction ls generalizing o with
  | nil => rfl
  | cons l ls ih => rw [List.foldl_cons, ih, Otb.order_length]

/-- With distinct indices each channel takes the order of its own leaf. -/
theorem Otb.foldl_order_channel? (now : Time) (order : Leaf → ChannelOrder) (ls : List Leaf)
    (nodup : (ls.map Leaf.index).Nodup) (o : Otb) (i : Nat) :
    (ls.foldl (fun o l => o.order now l.index (order l)) o).channel? i =
      match ls.find? (fun l => l.index = i) with
      | some l => (o.channel? i).map ((order l).act now)
      | none => o.channel? i := by
  induction ls generalizing o with
  | nil => rfl
  | cons l ls ih =>
    obtain ⟨new, nodup⟩ := List.nodup_cons.mp nodup
    rw [List.foldl_cons, ih nodup, Otb.order_channel?, List.find?_cons]
    by_cases here : l.index = i
    · have none : ls.find? (fun x => x.index = i) = none :=
        List.find?_eq_none.mpr fun x hx same =>
          new (List.mem_map.mpr ⟨x, hx, (of_decide_eq_true same).trans here.symm⟩)
      simp [here, none]
    · simp [here]

theorem State.passLeaves_otb : (s.passLeaves sides p).otb =
    s.dlc.leaves.foldl (fun o l => o.order s.now l.index (passedOrder sides p l)) s.otb := by
  unfold State.passLeaves
  rw [State.setOtb_otb]
  refine congrArg (fun f => List.foldl f s.otb s.dlc.leaves) ?_
  funext o l
  unfold passedOrder
  split <;> rfl

theorem State.passLeaves_bank : (s.passLeaves sides p).otb.channels.length = s.otb.channels.length := by
  rw [State.passLeaves_otb, Otb.foldl_order_length]

theorem State.passLeaves_channel? (nodup : (s.dlc.leaves.map Leaf.index).Nodup) (i : Nat) :
    (s.passLeaves sides p).otb.channel? i =
      match s.leaf? i with
      | some l => (s.otb.channel? i).map ((passedOrder sides p l).act s.now)
      | none => s.otb.channel? i := by
  rw [State.passLeaves_otb, Otb.foldl_order_channel? _ _ _ nodup]
  rfl

/-! ### What a sound passage keeps -/

/-- A leaf of another side passes to itself, its channel without an order. -/
theorem passedLeaf_sound (sound : ∀ l now, SoundPassage l (p l).1 ((p l).2.act now)) (l : Leaf) (now : Time) :
    SoundPassage l (passedLeaf sides p l) ((passedOrder sides p l).act now) := by
  unfold passedLeaf passedOrder
  split
  · exact sound l now
  · exact (Passage.stays rfl rfl).toSoundPassage

variable {s sides} in
/-- A command at the leaves of some sides whose passages are sound. -/
theorem State.passLeaves_kept (index : ∀ l, (p l).1.index = l.index)
    (sound : ∀ l now, SoundPassage l (p l).1 ((p l).2.act now)) : LeafKept s (s.passLeaves sides p).settleLeaves := by
  have passed : ListsWithin s (s.passLeaves sides p) := .refl s
  have quiet : Quiet s (s.passLeaves sides p) := ⟨rfl, rfl, fun _ => rfl⟩
  have indices := s.passLeaves_indices sides index
  refine ⟨passed.settleLeaves, quiet.settleLeaves, fun ⟨nodup, _⟩ => ?_, fun reasons => ?_,
    fun ⟨bank, nodup, bound, agree⟩ => ?_⟩
  · exact State.settleLeaves_summaries _ (indices ▸ nodup)
  · intro x hx
    rw [State.settleLeaves_dlc, State.passLeaves_leaves] at hx
    obtain ⟨l, hl, rfl⟩ := List.mem_map.mp hx
    exact (passedLeaf_sound sides sound l 0).reason (reasons l hl)
  · refine ⟨?_, ?_, ?_, fun i hi c hc => ?_⟩
    · rw [State.settleLeaves_otb, State.passLeaves_bank, bank]
    · rw [State.settleLeaves_dlc, indices]
      exact nodup
    · intro x hx
      rw [State.settleLeaves_dlc, State.passLeaves_leaves] at hx
      obtain ⟨l, hl, rfl⟩ := List.mem_map.mp hx
      rw [passedLeaf_index sides index]
      exact bound l hl
    · rw [State.settleLeaves_otb, s.passLeaves_channel? sides nodup] at hc
      rw [State.settleLeaves_leaf?, s.passLeaves_leaf? sides index]
      cases found : s.leaf? i with
      | none =>
        rw [found] at hc
        have before := agree i hi c hc
        rwa [found] at before
      | some l =>
        rw [found] at hc
        obtain ⟨d, hd, rfl⟩ := Option.map_eq_some_iff.mp hc
        have before := agree i hi d hd
        rw [found] at before
        exact (passedLeaf_sound sides sound l s.now).agrees d before

end Pass

/-! ### RELEASE and CLOSE (R111 to R113) -/

/-- A leaf that takes part in a close is unlocked by a RELEASE and its run stopped (R111). -/
theorem Leaf.release_sound (l : Leaf) (now : Time) : SoundPassage l l.release.1 (l.release.2.act now) := by
  have unlocked (runs : l.state ≠ .fault) :
      (l.reason.isSome = true ↔ l.state = .fault) → (l.reason.isSome = true ↔ LeafState.released = .fault) :=
    fun known => ⟨fun isSome => absurd (known.mp isSome) runs, nofun⟩
  unfold Leaf.release
  split
  case h_1 state =>
    refine ⟨unlocked (by rw [state]; nofun), fun c h => ?_⟩
    exact (leafAgrees_resting_iff _ c rfl).mpr ((leafAgrees_resting_iff l c (by rw [state]; rfl)).mp h)
  case h_2 state | h_3 state | h_4 state =>
    exact ⟨unlocked (by rw [state]; nofun),
      fun c h => (leafAgrees_resting_iff _ _ rfl).mpr (c.stopRun_rests h.offInactive)⟩
  all_goals exact (Passage.stays rfl rfl).toSoundPassage

/-- A leaf in RELEASED or FAULT begins to close by a CLOSE, with a new run (R112, R113). -/
theorem Leaf.close_passage (l : Leaf) (now : Time) : Passage l l.close.1 (l.close.2.act now) := by
  have warns : Passage l l.enterWarn.1 (l.enterWarn.2.act now) :=
    ⟨⟨fun _ => by simp [Leaf.enterWarn], fun c _ =>
      c.startRun_agrees now 3000 11000 l.enterWarn.1 (by decide) (by decide) rfl nofun⟩, nofun⟩
  unfold Leaf.close
  split
  case h_1 | h_2 => exact warns
  all_goals exact Passage.stays rfl rfl

theorem State.closeLeaves_event (s : State) (sides : List Side) : LeafEvent s (s.closeLeaves sides) := by
  rw [State.closeLeaves_eq]
  refine ⟨State.passLeaves_kept Leaf.close_index fun l now => (l.close_passage now).toSoundPassage,
    fun i m hm state => ?_⟩
  rw [State.settleLeaves_leaf?, s.passLeaves_leaf? sides Leaf.close_index] at hm
  obtain ⟨l, found, rfl⟩ := Option.map_eq_some_iff.mp hm
  refine ⟨l, found, ?_⟩
  unfold passedLeaf at state
  split at state
  · exact (l.close_passage 0).released state
  · exact state

theorem State.releaseLeaves_kept (s : State) (sides : List Side) (n : FormationNumber) :
    LeafKept s (s.releaseLeaves sides n) := by
  unfold State.releaseLeaves
  split
  · rw [s.onLeaves_eq sides _ Leaf.release_matchesAtStart]
    exact State.passLeaves_kept Leaf.release_index Leaf.release_sound
  · exact (Still.refl s).leafEvent.toLeafKept

end Sys2Proof.Machine
end

section
/-! SUPPORT. What every command keeps of the bounded lists, the summaries, the fault reasons and the leaves (R81, R91,
R95, R107, R132, R134, R137, R177). -/

namespace Sys2Proof.Machine

/-! ### The conditions together -/

/-- What holds of the bounded lists and of the leaves in the one state holds in the other. -/
structure Keeps (s t : State) : Prop where
  receive : s.receiveSound → t.receiveSound
  holds : s.holdSound → t.holdSound
  notices : s.noticesSound → t.noticesSound
  doorTables : s.doorTablesSound → t.doorTablesSound
  summaries : s.summariesCurrent → t.summariesCurrent
  reasons : s.faultReasonsSound → t.faultReasonsSound
  leaves : s.leavesSound → t.leavesSound

theorem Keeps.of_lists {s t : State} (lists : ListsWithin s t) (summaries : s.summariesCurrent → t.summariesCurrent)
    (reasons : s.faultReasonsSound → t.faultReasonsSound) (leaves : s.leavesSound → t.leavesSound) : Keeps s t := by
  obtain ⟨straps, queue, holds, schedule, dedup, notices⟩ := lists
  refine ⟨fun ⟨length, kinds⟩ => ?_, fun ⟨length, distinct, others⟩ => ?_, notices, fun ⟨length, tables⟩ => ?_,
    summaries, reasons, leaves⟩
  · exact ⟨Nat.le_trans queue.length_le length, fun f mem => kinds f (queue.subset mem)⟩
  · refine ⟨Nat.le_trans holds.length_le length, distinct.sublist (holds.map _), fun e mem => ?_⟩
    have own : t.id = s.id := congrArg Straps.serial straps
    exact own ▸ others e (holds.subset mem)
  · have same : t.dcu.dedup = s.dcu.dedup := dedup
    refine ⟨Nat.le_trans schedule length, ?_⟩
    rw [same]
    exact tables

theorem LeafKept.keeps {s t : State} (h : LeafKept s t) : Keeps s t :=
  .of_lists h.lists h.summaries h.reasons h.leaves

theorem Calm.keeps {s t : State} (h : Calm s t) : Keeps s t :=
  have ⟨summaries, reasons, leaves⟩ := h.leavesKept
  .of_lists h.lists summaries reasons leaves

theorem keeps_chains : Chains Keeps where
  still h := h.toCalm.keeps
  trans h h' :=
    { receive := h'.receive ∘ h.receive
      holds := h'.holds ∘ h.holds
      notices := h'.notices ∘ h.notices
      doorTables := h'.doorTables ∘ h.doorTables
      summaries := h'.summaries ∘ h.summaries
      reasons := h'.reasons ∘ h.reasons
      leaves := h'.leaves ∘ h.leaves }

/-- A passage that keeps these conditions and is quiet. -/
structure QuietKeeps (s t : State) : Prop extends Keeps s t, Quiet s t

theorem LeafKept.quietKeeps {s t : State} (h : LeafKept s t) : QuietKeeps s t := ⟨h.keeps, h.quiet⟩

theorem quietKeeps_chains : Chains QuietKeeps where
  still h := ⟨h.toCalm.keeps, h.toQuiet⟩
  trans h h' := ⟨keeps_chains.trans h.toKeeps h'.toKeeps, h.toQuiet.trans h'.toQuiet⟩

section Writes

variable (s : State)

/-- A write of the receive queue. -/
theorem Keeps.setRxp (r : Rxp) (receive : s.receiveSound → (s.setRxp r).receiveSound) : Keeps s (s.setRxp r) :=
  ⟨receive, fun h => h, fun h => h, fun h => h, fun h => h, fun h => h, fun h => h⟩

/-- A write of the hold list. -/
theorem Keeps.setLhu (l : Lhu) (holds : s.holdSound → (s.setLhu l).holdSound) : Keeps s (s.setLhu l) :=
  ⟨fun h => h, holds, fun h => h, fun h => h, fun h => h, fun h => h, fun h => h⟩

/-- A write of the DCU's tables. -/
theorem Keeps.setDcu (d : Dcu) (side1 : d.side1 = s.dcu.side1) (side2 : d.side2 = s.dcu.side2)
    (tables : s.doorTablesSound → (s.setDcu d).doorTablesSound) : Keeps s (s.setDcu d) := by
  refine ⟨fun h => h, fun h => h, fun h => h, tables, fun ⟨indices, one, two⟩ => ?_, fun h => h, fun h => h⟩
  exact ⟨indices, side1.trans one, side2.trans two⟩

end Writes

/-! ### The arrival of a frame (R78 to R84, R91) -/

theorem displaceOldest_sublist {q rest : List Frame} (h : displaceOldest q = some rest) :
    rest.Sublist q ∧ q.length = rest.length + 1 := by
  induction q generalizing rest with
  | nil => nomatch h
  | cons f fs ih =>
    unfold displaceOldest at h
    split at h
    · obtain ⟨rest', found, rfl⟩ := Option.map_eq_some_iff.mp h
      obtain ⟨sub, length⟩ := ih found
      exact ⟨sub.cons_cons f, congrArg (· + 1) length⟩
    · obtain rfl := Option.some.inj h
      exact ⟨List.sublist_cons_self f fs, rfl⟩

/-- The full policy keeps the length, and brings in no frame but the arrival. -/
theorem fullPolicy_bounds (policy : RxPolicy) (q : List Frame) (f : Frame) :
    (fullPolicy policy q f).length = q.length ∧ ∀ g ∈ fullPolicy policy q f, g ∈ q ∨ g = f := by
  have kept : q.length = q.length ∧ ∀ g ∈ q, g ∈ q ∨ g = f := ⟨rfl, fun _ => .inl⟩
  unfold fullPolicy
  split
  · split
    case h_1 rest displaced =>
      obtain ⟨sub, length⟩ := displaceOldest_sublist displaced
      refine ⟨by rw [length, List.length_append]; rfl, fun g mem => ?_⟩
      obtain old | new := List.mem_append.mp mem
      · exact .inl (sub.subset old)
      · exact .inr (List.mem_singleton.mp new)
    case h_2 => exact kept
  · exact kept

theorem State.enqueue_quietKeeps (s : State) (f : Frame) (noHold : f.kind ≠ .hold) : QuietKeeps s (s.enqueue f) := by
  have written (r : Rxp) (receive : s.receiveSound → (s.setRxp r).receiveSound) : QuietKeeps s (s.setRxp r) :=
    ⟨.setRxp s r receive, ⟨rfl, rfl, fun _ => rfl⟩⟩
  unfold State.enqueue
  dsimp only
  split
  case isTrue room =>
    refine quietKeeps_chains.trans (written _ fun ⟨_, kinds⟩ => ⟨?_, fun g mem => ?_⟩)
      (quietKeeps_chains.still (Still.noteRise (.refl _) _ _))
    · rw [State.setRxp_rxp, List.length_append]
      exact room
    · obtain old | new := List.mem_append.mp mem
      · exact kinds g old
      · exact List.mem_singleton.mp new ▸ noHold
  case isFalse =>
    obtain ⟨length, members⟩ := fullPolicy_bounds s.straps.rxPolicy s.rxp.queue f
    refine quietKeeps_chains.trans (written _ fun ⟨bound, kinds⟩ => ⟨?_, fun g mem => ?_⟩)
      (quietKeeps_chains.still (Still.count (.refl _) _))
    · exact Nat.le_trans (Nat.le_of_eq length) bound
    · obtain old | new := members g mem
      · exact kinds g old
      · exact new ▸ noHold

theorem dropExpiry_sublist (t : Time) (hs : List HoldEntry) : (dropExpiry t hs).Sublist hs := by
  induction hs with
  | nil => exact .refl _
  | cons e es ih =>
    unfold dropExpiry
    split
    · exact List.sublist_cons_self e es
    · exact ih.cons_cons e

/-- Some entry has the least expiry time, so one is dropped. -/
theorem dropExpiry_least_length (e : HoldEntry) (es : List HoldEntry) :
    (dropExpiry (leastExpiry (e :: es)) (e :: es)).length = es.length := by
  induction es generalizing e with
  | nil => simp [dropExpiry, leastExpiry]
  | cons e' es ih =>
    have least : leastExpiry (e :: e' :: es) = min e.expiresAt (leastExpiry (e' :: es)) := rfl
    unfold dropExpiry
    split
    case isTrue => rfl
    case isFalse other =>
      have later : leastExpiry (e :: e' :: es) = leastExpiry (e' :: es) := by
        rw [least] at other ⊢
        exact (min_choice e.expiresAt _).resolve_left (Ne.symm other)
      rw [later, List.length_cons, ih, List.length_cons]

/-- A HOLD's effect on the hold list: what remains of the other entries, and the sender's own at most. -/
theorem holdListAfter_cases (hs : List HoldEntry) (peer : NodeId) (ms : Nat) (now : Time) :
    (holdListAfter hs peer ms now).Sublist (hs.filter fun h => h.peer ≠ peer)
      ∨ ∃ others e, holdListAfter hs peer ms now = others ++ [e] ∧ e.peer = peer
          ∧ others.Sublist (hs.filter fun h => h.peer ≠ peer) ∧ (hs.length ≤ 4 → others.length < 4) := by
  unfold holdListAfter
  dsimp only
  split
  case isTrue => exact .inl (.refl _)
  case isFalse =>
    split
    case isTrue room => exact .inr ⟨_, _, rfl, rfl, .refl _, fun _ => room⟩
    case isFalse full =>
      refine .inr ⟨_, _, rfl, rfl, dropExpiry_sublist _ _, fun bound => ?_⟩
      have filtered := List.length_filter_le (fun h : HoldEntry => decide (h.peer ≠ peer)) hs
      cases others : hs.filter (fun h => decide (h.peer ≠ peer)) with
      | nil => exact (by decide : 0 < 4)
      | cons e es =>
        rw [dropExpiry_least_length]
        rw [others, List.length_cons] at filtered
        omega

theorem State.takeHold_keeps (s : State) (f : Frame) (peer : f.sender ≠ s.id) : Keeps s (s.takeHold f) := by
  refine Keeps.setLhu s _ fun ⟨length, distinct, others⟩ => ?_
  have left : (s.lhu.holds.filter fun h => h.peer ≠ f.sender).Sublist s.lhu.holds := List.filter_sublist
  obtain kept | ⟨rest, e, joined, sender, sub, room⟩ :=
    holdListAfter_cases s.lhu.holds f.sender (holdOf f.payload) s.now
  · have within := kept.trans left
    exact ⟨Nat.le_trans within.length_le length, distinct.sublist (within.map _),
      fun h mem => others h (within.subset mem)⟩
  · have within := sub.trans left
    rw [State.holdSound, State.setLhu_lhu]
    dsimp only
    rw [joined]
    refine ⟨?_, ?_, fun h mem => ?_⟩
    · rw [List.length_append]
      exact room length
    · rw [List.map_append, List.nodup_append]
      refine ⟨distinct.sublist (within.map _), List.nodup_singleton _, fun p mem p' mem' same => ?_⟩
      obtain ⟨h, hold, rfl⟩ := List.mem_map.mp mem
      obtain rfl : p' = e.peer := by simpa using mem'
      have other := (List.mem_filter.mp (sub.subset hold)).2
      exact of_decide_eq_true other (same.trans sender)
    · obtain old | new := List.mem_append.mp mem
      · exact others h (within.subset old)
      · rw [List.mem_singleton.mp new, sender]
        exact peer

/-- A frame that passes the checks is another node's. -/
theorem checkReception_sender {own : NodeId} {r : Reception} {f : Frame} (h : checkReception own r = some f) :
    f.sender ≠ own := by
  unfold checkReception at h
  dsimp only at h
  obtain ⟨-, h⟩ := Option.ite_none_left_eq_some.mp h
  obtain ⟨-, h⟩ := Option.ite_none_left_eq_some.mp h
  split at h
  case h_1 => nomatch h
  case h_2 =>
    obtain ⟨-, h⟩ := Option.ite_none_left_eq_some.mp h
    obtain ⟨-, h⟩ := Option.ite_none_left_eq_some.mp h
    obtain ⟨-, h⟩ := Option.ite_none_left_eq_some.mp h
    obtain ⟨known, h⟩ := Option.ite_none_left_eq_some.mp h
    obtain rfl := Option.some.inj h
    exact fun own => known (.inr own)

theorem State.endReception_keeps (s : State) (r : Reception) : Keeps s (s.endReception r) := by
  have counted (c : Counter) : Keeps s (s.count c) := keeps_chains.still ((Still.refl s).count c)
  unfold State.endReception
  split
  case h_1 f checked =>
    unfold State.routeFrame
    split
    case isTrue => exact keeps_chains.trans (counted _) (State.takeHold_keeps _ f (checkReception_sender checked))
    case isFalse noHold =>
      split
      · exact keeps_chains.trans (((Calm.refl s).count _).sight f).keeps (State.enqueue_quietKeeps _ f noHold).toKeeps
      · exact counted _
  case h_2 => exact counted _

theorem execFrameArrival_keeps (s : State) (r : Reception) : Leads Keeps s (execFrameArrival r s) := by
  unfold execFrameArrival
  split
  · refine keeps_chains.service (keeps_chains.still ((Still.refl s).setPins _)) fun t => ?_
    have ended : Still t t.endCarrier := (Still.refl t).setLau _
    dsimp only
    split
    · exact keeps_chains.trans
        (keeps_chains.still (ended.setRxp (r := { t.endCarrier.rxp with receiving := false }) (.refl _)))
        (State.endReception_keeps _ r)
    · exact keeps_chains.still ended
  · exact .next (keeps_chains.refl s)

/-! ### The take of a frame (R86, R134 to R136) -/

theorem joinSeq_length (seqs : List Byte) (seq : Byte) (bound : seqs.length ≤ 4) :
    1 ≤ (joinSeq seqs seq).length ∧ (joinSeq seqs seq).length ≤ 4 := by
  unfold joinSeq
  split
  case isTrue room =>
    rw [List.length_append]
    exact ⟨Nat.le_add_left 1 _, room⟩
  case isFalse full =>
    rw [List.length_append, List.length_drop]
    exact ⟨Nat.le_add_left 1 _, by simp only [List.length_singleton]; omega⟩

/-- The bounds of the de-duplication table (R134). -/
def dedupBounded (ds : List DedupEntry) : Prop :=
  ds.length ≤ 4 ∧ (ds.map DedupEntry.issuer).Nodup ∧ ∀ d ∈ ds, 1 ≤ d.seqs.length ∧ d.seqs.length ≤ 4

/-- An entry joins what is left of a table, whose other entries are of other issuers. -/
theorem dedupBounded.join {ds rest : List DedupEntry} (h : dedupBounded ds) (sub : rest.Sublist ds) (e : DedupEntry)
    (room : rest.length < 4) (new : ∀ d ∈ rest, d.issuer ≠ e.issuer)
    (seqs : 1 ≤ e.seqs.length ∧ e.seqs.length ≤ 4) : dedupBounded (rest ++ [e]) := by
  obtain ⟨-, distinct, bounds⟩ := h
  refine ⟨?_, ?_, fun d mem => ?_⟩
  · rw [List.length_append]
    exact room
  · rw [List.map_append, List.nodup_append]
    refine ⟨distinct.sublist (sub.map _), List.nodup_singleton _, fun p mem p' mem' same => ?_⟩
    obtain ⟨d, entry, rfl⟩ := List.mem_map.mp mem
    obtain rfl : p' = e.issuer := by simpa using mem'
    exact new d entry same
  · obtain old | here := List.mem_append.mp mem
    · exact bounds d (sub.subset old)
    · exact List.mem_singleton.mp here ▸ seqs

theorem dedupLookup_bounded (ds : List DedupEntry) (issuer : NodeId) (seq : Byte) (now : Time) (h : dedupBounded ds) :
    dedupBounded (dedupLookup ds issuer seq now).2 := by
  have ⟨length, _, bounds⟩ := h
  have others : (ds.filter fun d => d.issuer ≠ issuer).Sublist ds := List.filter_sublist
  have another : ∀ d ∈ ds.filter (fun d => d.issuer ≠ issuer), d.issuer ≠ issuer :=
    fun d mem => of_decide_eq_true (List.mem_filter.mp mem).2
  unfold dedupLookup
  dsimp only
  split
  case h_1 d found =>
    have member := List.mem_of_find?_eq_some found
    have known : d.issuer = issuer := by simpa using List.find?_some found
    have room : (ds.filter fun d => d.issuer ≠ issuer).length < 4 :=
      Nat.lt_of_lt_of_le (List.length_filter_lt_length_iff_exists.mpr ⟨d, member, by simp [known]⟩) length
    have new : ∀ x ∈ ds.filter (fun d => d.issuer ≠ issuer), x.issuer ≠ d.issuer :=
      fun x mem => known ▸ another x mem
    split
    · exact h.join others { d with lastUse := now } room new (bounds d member)
    · exact h.join others { d with seqs := joinSeq d.seqs seq, lastUse := now } room new
        (joinSeq_length _ _ (bounds d member).2)
  case h_2 none =>
    have new : ∀ x ∈ ds, x.issuer ≠ issuer := fun x mem same => List.find?_eq_none.mp none x mem (by simp [same])
    have alone : 1 ≤ [seq].length ∧ [seq].length ≤ 4 := ⟨Nat.le_refl 1, by simp⟩
    split
    case isTrue room => exact h.join (.refl ds) ⟨issuer, [seq], now⟩ room new alone
    case isFalse full =>
      refine h.join (List.drop_sublist 1 ds) ⟨issuer, [seq], now⟩ ?_
        (fun x mem => new x (List.mem_of_mem_drop mem)) alone
      rw [List.length_drop]
      omega

theorem State.takeDoorcmd_quietKeeps (s : State) (f : Frame) : QuietKeeps s (s.takeDoorcmd f) := by
  have released (t : State) (sides : List Side) (n : FormationNumber) : QuietKeeps t (t.releaseLeaves sides n) :=
    (t.releaseLeaves_kept sides n).quietKeeps
  have closed (t : State) (sides : List Side) : QuietKeeps t (t.closeLeaves sides) :=
    (t.closeLeaves_event sides).toLeafKept.quietKeeps
  have refused (t : State) (issuer : Byte) (r : RefusalReason) : QuietKeeps t (t.refuseRelease issuer r) :=
    quietKeeps_chains.still (((Still.refl t).count _).post _)
  unfold State.takeDoorcmd
  split
  case h_1 => exact quietKeeps_chains.refl s
  case h_2 c _ =>
    have looked : QuietKeeps s (s.setDcu { s.dcu with dedup := (dedupLookup s.dcu.dedup f.sender c.seq s.now).2 }) :=
      ⟨.setDcu s _ rfl rfl fun ⟨schedule, dedup⟩ => ⟨schedule, dedupLookup_bounded _ _ _ _ dedup⟩,
        ⟨rfl, rfl, fun _ => rfl⟩⟩
    dsimp only
    split
    · exact looked
    · refine quietKeeps_chains.trans looked ?_
      split
      · unfold State.receiveRelease
        split
        · exact refused _ _ _
        · split
          · exact refused _ _ _
          · split
            · exact released _ _ _
            · exact quietKeeps_chains.refl _
      · unfold State.receiveClose
        split
        · split
          · split
            · exact closed _ _
            · exact quietKeeps_chains.refl _
          · exact closed _ _
        · exact closed _ _

theorem execFrameTake_keeps (s : State) : Leads Keeps s (execFrameTake s) := by
  refine keeps_chains.occasion fun t => ?_
  split
  case h_1 f rest queue =>
    have taken : Still t ((t.setRxp { t.rxp with queue := rest }).noteFall rest.length) :=
      ((Still.refl t).setRxp (by rw [queue]; exact List.sublist_cons_self f rest)).noteFall _
    unfold State.takeHead
    dsimp only
    split
    · refine keeps_chains.trans (keeps_chains.still taken) ?_
      unfold State.consume
      split
      · exact keeps_chains.refl _
      · exact keeps_chains.refl _
      · exact ((Calm.refl _).takeRoll f).keeps
      · exact ((Calm.refl _).takeTally f).keeps
      · exact (State.takeDoorcmd_quietKeeps _ f).toKeeps
      · exact keeps_chains.still ((Still.refl _).takeDoorstat f)
      · exact keeps_chains.still ((Still.refl _).takeHeatbid f)
    · exact keeps_chains.still (taken.count _)
  case h_2 => exact keeps_chains.refl t

/-! ### DOOR_ISSUE (R128 to R132) -/

/-- What DOOR_ISSUE does to the state: nothing, or the command is scheduled and acts on the own leaves. -/
theorem State.doorIssue_cases (s : State) (action side lo hi : Byte) :
    (s.doorIssue action side lo hi).1 = s
      ∨ ∃ a d, doorActionOf action = some a ∧ doorSideOf side = some d
          ∧ (a = .release → s.releaseChecks lo.toNat hi.toNat = none) ∧ s.dcu.schedule.length < 4
          ∧ (s.doorIssue action side lo hi).1 =
              (s.scheduled (s.issueCommand a d lo.toNat hi.toNat)).applyIssue
                (s.issueCommand a d lo.toNat hi.toNat) := by
  cases ha : doorActionOf action with
  | none => exact .inl (by rw [s.doorIssue_invalid action side lo hi (.inl ha)])
  | some a =>
    cases hd : doorSideOf side with
    | none => exact .inl (by rw [s.doorIssue_invalid action side lo hi (.inr hd)])
    | some d =>
      cases cab : s.straps.coachType.isCab with
      | false => exact .inl (by rw [s.doorIssue_notCab lo hi ha hd cab])
      | true =>
        by_cases passes : a = .release → s.releaseChecks lo.toNat hi.toNat = none
        · rw [s.doorIssue_passed lo hi ha hd cab passes]
          by_cases room : s.dcu.schedule.length < 4
          · rw [if_pos room]
            by_cases store : s.lau.safety.length < 6
            · exact .inr ⟨a, d, rfl, rfl, passes, room, by rw [s.issue_stored _ store]⟩
            · exact .inl (by rw [s.issue_full _ (Nat.not_lt.mp store)])
          · exact .inl (by rw [if_neg room])
        · obtain ⟨rfl, fails⟩ := Classical.not_imp.mp passes
          obtain ⟨r, refused⟩ := Option.ne_none_iff_exists'.mp fails
          exact .inl (by rw [s.doorIssue_releaseRefused lo hi r ha hd cab refused])

theorem State.doorIssue_quietKeeps (s : State) (action side lo hi : Byte) :
    QuietKeeps s (s.doorIssue action side lo hi).1 := by
  obtain same | ⟨a, d, -, -, -, room, issued⟩ := s.doorIssue_cases action side lo hi
  · rw [same]
    exact quietKeeps_chains.refl s
  · rw [issued]
    have scheduled (c : DoorCmd) : QuietKeeps s (s.scheduled c) := by
      have sent : QuietKeeps s (s.setLau { s.lau with safety := s.lau.safety ++ [s.issueFrame c] }) :=
        quietKeeps_chains.still ((Still.refl s).setLau _)
      refine quietKeeps_chains.trans sent ⟨.setDcu _ _ rfl rfl fun ⟨_, dedup⟩ => ⟨?_, dedup⟩, ⟨rfl, rfl, fun _ => rfl⟩⟩
      rw [State.setDcu_dcu, List.length_append]
      exact room
    refine quietKeeps_chains.trans (scheduled (s.issueCommand a d lo.toNat hi.toNat)) ?_
    unfold State.applyIssue
    split
    · split
      · exact (State.releaseLeaves_kept _ _ _).quietKeeps
      · exact quietKeeps_chains.refl _
    · split
      · split
        · exact (State.closeLeaves_event _ _).toLeafKept.quietKeeps
        · exact quietKeeps_chains.refl _
      · exact (State.closeLeaves_event _ _).toLeafKept.quietKeeps

/-! ### External reset (R106, R127, R146, R168, R175, R176) -/

theorem Otb.atRelease_rests : ∀ c ∈ Otb.atRelease.channels, c.mode = .off ∧ c.output = false := by
  decide

/-- A state whose lists, leaves and bank are at their reset values, with distinct leaves below the heaters. -/
theorem Keeps.atReset (s t : State) (rxp : t.rxp = Rxp.atRelease) (lhu : t.lhu = Lhu.atRelease)
    (otb : t.otb = Otb.atRelease) (dcu : t.dcu = Dcu.atRelease t.dlc) (port : t.port = Port.atRelease)
    (distinct : (t.dlc.leaves.map Leaf.index).Nodup) (bound : ∀ l ∈ t.dlc.leaves, l.index < 8)
    (rests : ∀ l ∈ t.dlc.leaves, l.state.runs = false) (reasons : t.faultReasonsSound) : Keeps s t := by
  refine ⟨fun _ => ?_, fun _ => ?_, fun _ => ?_, fun _ => ?_, fun _ => ?_, fun _ => reasons, fun _ => ?_⟩
  · rw [State.receiveSound, rxp]
    exact ⟨Nat.zero_le _, nofun⟩
  · rw [State.holdSound, lhu]
    exact ⟨Nat.zero_le _, List.nodup_nil, nofun⟩
  · rw [State.noticesSound, port]
    exact ⟨Nat.zero_le _, nofun⟩
  · rw [State.doorTablesSound, dcu]
    exact ⟨Nat.zero_le _, Nat.zero_le _, List.nodup_nil, nofun⟩
  · rw [State.summariesCurrent, dcu]
    exact ⟨distinct, rfl, rfl⟩
  · refine ⟨by rw [otb]; rfl, distinct, bound, fun i _ c hc => ?_⟩
    rw [otb] at hc
    have quiet := Otb.atRelease_rests c (List.mem_of_getElem? hc)
    split
    case h_1 l found =>
      exact (leafAgrees_resting_iff l c (rests l (List.mem_of_find?_eq_some found))).mpr quiet
    case h_2 => exact quiet

theorem Straps.leafIndices_nodup (p : StrapPins) : (Straps.latch p).leafIndices.Nodup := by
  have one := latchCount_le p.leavesS1
  refine List.nodup_append.mpr ⟨List.nodup_range, List.nodup_range.map fun _ _ => Nat.add_right_cancel, ?_⟩
  intro i hi j hj same
  obtain ⟨n, -, rfl⟩ := List.mem_map.mp hj
  have below : i < 4 := Nat.lt_of_lt_of_le (List.mem_range.mp hi) one
  omega

theorem State.asserted_keeps (s : State) : Keeps s s.asserted :=
  Keeps.atReset s _ rfl rfl rfl rfl rfl List.nodup_nil nofun nofun nofun

theorem State.released_keeps (s : State) (p : StrapPins) : Keeps s (s.released (Straps.latch p)) := by
  have indices : (s.released (Straps.latch p)).dlc.leaves.map Leaf.index = (Straps.latch p).leafIndices :=
    Dlc.atRelease_indices (Straps.latch p) s.pins
  have leaf : ∀ l ∈ (s.released (Straps.latch p)).dlc.leaves,
      l.state.runs = false ∧ (l.reason.isSome = true ↔ l.state = .fault) := by
    intro l mem
    rw [Dlc.atRelease_leaf _ _ l mem, Leaf.atRelease]
    cases s.pins.cl.getD l.index false <;> simp [LeafState.runs]
  refine Keeps.atReset s _ rfl rfl rfl rfl rfl ?_ ?_ (fun l mem => (leaf l mem).1) (fun l mem => (leaf l mem).2)
  · rw [indices]
    exact Straps.leafIndices_nodup p
  · intro l mem
    exact Straps.latch_leafIndices p l.index (indices ▸ List.mem_map_of_mem mem)

/-! ### Every step -/

theorem exec_keeps (s : State) (i : Instr) : Leads Keeps s (exec i s) := by
  have events {o : Host.Outcome State Fault Refusal} (h : Leads LeafEvent s o) : Leads Keeps s o :=
    h.imp fun event => event.toLeafKept.keeps
  cases others : isCalm i with
  | true => exact (exec_calm s i others).imp Calm.keeps
  | false =>
    cases i with
    | externalResetAssert =>
      refine .next ?_
      split
      · exact keeps_chains.refl s
      · exact s.asserted_keeps
    | externalResetRelease p => exact .next (s.released_keeps p)
    | frameArrival r => exact execFrameArrival_keeps s r
    | frameTake => exact execFrameTake_keeps s
    | aMatch i => exact events (execAMatch_event s i)
    | bMatch i => exact events (execBMatch_event s i)
    | rawLeafInputChange leaf input level => exact events (execRawLeafInputChange_event s leaf input level)
    | leafInputFiltered leaf input => exact events (execLeafInputFiltered_event s leaf input)
    | lockComplete leaf => exact events (execLockComplete_event s leaf)
    | unlockFault leaf => exact events (execUnlockFault_event s leaf)
    | leafRecovery leaf => exact events (execLeafRecovery_event s leaf)
    | isolateOn leaf onOff | isolateOff leaf onOff =>
      exact events (leafEvent_chains.request fun t => t.isolateRequest_event leaf onOff)
    | doorIssueRelease action side lo hi | doorIssueClose action side lo hi =>
      exact keeps_chains.request fun t => (t.doorIssue_quietKeeps action side lo hi).toKeeps
    | _ => nomatch others

/-- Every step keeps the bounded lists and the leaves. -/
theorem step_keeps {s t : State} (next : step s = .next t) : Keeps s t := keeps_chains.step exec_keeps s t next

end Sys2Proof.Machine
end

section
/-! The settled statements about the bounded lists and about leaves and their channels (R79, R81, R84, R91, R95, R109,
R119, R132, R134, R177). -/

namespace Sys2Proof.Machine

/-- Settles O10: each command's passage of a leaf comes with the order to its channel. -/
theorem leavesSoundKept : Obligations.LeavesSoundKept := fun _ _ sound next => (step_keeps next).leaves sound

/-- Settles O5: no command but an arrival, a take and a DOOR_ISSUE adds to a list but notices, and these keep the
bounds. -/
theorem listsSoundKept : Obligations.ListsSoundKept := by
  unfold Obligations.ListsSoundKept
  exact ⟨fun _ _ sound next => (step_keeps next).receive sound, fun _ _ sound next => (step_keeps next).holds sound,
    fun _ _ sound next => (step_keeps next).notices sound, fun _ _ sound next => (step_keeps next).doorTables sound⟩

end Sys2Proof.Machine
end

section
/-! SUPPORT. What keeps the timers of FORMED: an operation that is quiet, and each operation of formation (R16 to R38,
R138, R144, R150, R158). -/

namespace Sys2Proof.Machine

section Kept

variable {s : State}

/-! ### The condition -/

theorem State.formedTimersSound_iff (s : State) : s.formedTimersSound
    ↔ s.orderingSound ∧ (s.cc.formState ≠ .formed → s.formationTimers = (none, none, none)) := by
  rw [← State.isFormed_eq_false_iff, State.formedTimersSound, State.formationTimers, Prod.mk_inj, Prod.mk_inj]

theorem State.formedTimersSound.of_quiet (h : s.formedTimersSound) {t : State} (quiet : Quiet s t) :
    t.formedTimersSound := by
  obtain ⟨ordering, off⟩ := s.formedTimersSound_iff.mp h
  refine t.formedTimersSound_iff.mpr ⟨fun running => ?_, fun out => ?_⟩
  · exact quiet.formState.trans (ordering (quiet.ordering ▸ running))
  · have out' : s.cc.formState ≠ .formed := quiet.formState ▸ out
    exact (quiet.timers (s.isFormed_eq_false_iff.mpr out')).trans (off out')

theorem State.formedTimersSound.still (h : s.formedTimersSound) {t : State} (still : Still s t) :
    t.formedTimersSound := h.of_quiet still.toQuiet

/-- From a state outside FORMED the timers stay off. -/
theorem State.formedTimersSound.outside (h : s.formedTimersSound) (out : s.cc.formState ≠ .formed) {t : State}
    (timers : t.formationTimers = s.formationTimers) (ordering : t.orderingSound) : t.formedTimersSound := by
  obtain ⟨-, off⟩ := s.formedTimersSound_iff.mp h
  exact t.formedTimersSound_iff.mpr ⟨ordering, fun _ => timers.trans (off out)⟩

/-- In FORMED the timers may run. -/
theorem State.formedTimersSound_of_formed (formed : s.cc.formState = .formed) (idle : s.cc.ordering = none) :
    s.formedTimersSound :=
  s.formedTimersSound_iff.mpr ⟨.of_none idle, fun out => absurd formed out⟩

/-- With the timers off and no computation the state is sound in any formation state. -/
theorem State.formedTimersSound_of_off (timers : s.formationTimers = (none, none, none))
    (idle : s.cc.ordering = none) : s.formedTimersSound :=
  s.formedTimersSound_iff.mpr ⟨.of_none idle, fun _ => timers⟩

/-! ### GATHER (R18, R19, R23 to R29, R144) -/

/-- The DCU and the HSU that are told of the end of FORMED turn its timers off. -/
theorem State.leaveFormed_formationTimers (s : State) :
    s.dcuLeaveFormed.hsuLeaveFormed.formationTimers = (none, none, none) := by
  have timer : s.dcuLeaveFormed.dcu.doorstatTimer = none := by
    rw [State.dcuLeaveFormed, State.evalDoorsSecure_dcu]
    rfl
  exact congrArg (fun timer => (none, none, timer)) timer

/-- In GATHER the timers are off: they were before, or the node was FORMED and the blocks are told. -/
theorem State.formedTimersSound.tellLeft (h : s.formedTimersSound) {t : State} (gather : t.cc.formState = .gather)
    (dcu : t.dcu = s.dcu) (hsu : t.hsu = s.hsu) : (t.tellLeft s.isFormed).formedTimersSound := by
  cases was : s.isFormed with
  | true =>
    have cc : (t.tellLeft true).cc = t.cc := t.dcuLeaveFormed_cc
    exact (State.formedTimersSound_iff _).mpr ⟨fun _ => cc ▸ gather, fun _ => t.leaveFormed_formationTimers⟩
  | false =>
    have timers : t.formationTimers = s.formationTimers := by
      rw [State.formationTimers, dcu, hsu]
      rfl
    exact h.outside (s.isFormed_eq_false_iff.mp was) timers fun _ => gather

theorem State.formedTimersSound.startFormation (h : s.formedTimersSound) (r : ReformReason) :
    (s.startFormation r).formedTimersSound :=
  h.tellLeft (State.enterGather_formState _) (by simp) (by simp)

theorem State.formedTimersSound.adopt (h : s.formedTimersSound) (n : FormationNumber) (r : LeftReason) :
    (s.adopt n r).formedTimersSound :=
  h.tellLeft (State.enterGather_formState _) (by simp) (by simp)

/-- A computation that starts in GATHER (R28). -/
theorem State.formedTimersSound.startOrdering (h : s.formedTimersSound) (gather : s.cc.formState = .gather)
    (p : Bool) : (s.startOrdering p).formedTimersSound :=
  h.outside (fun formed => nomatch gather.symm.trans formed) rfl fun _ => gather

theorem State.formedTimersSound.testClosure (h : s.formedTimersSound) (gather : s.cc.formState = .gather) :
    s.testClosure.formedTimersSound := by
  unfold State.testClosure
  split
  · exact h.startOrdering gather false
  · exact h

theorem State.formedTimersSound.renewOwnRecord (h : s.formedTimersSound) : s.renewOwnRecord.formedTimersSound := by
  unfold State.renewOwnRecord
  split
  case isTrue gathering =>
    obtain ⟨gather, -⟩ := gathering
    exact State.formedTimersSound.testClosure (h.still ((Still.refl s).setCc rfl rfl)) gather
  case isFalse => exact h

theorem State.formedTimersSound.sight (h : s.formedTimersSound) (f : Frame) : (s.sight f).formedTimersSound := by
  unfold State.sight State.sightEqual
  split
  · exact h.adopt _ _
  · split
    · split
      · split
        · exact h.still ((Still.refl s).hearMember _ _)
        · split
          · exact h
          · exact h.startFormation _
      · exact h
    · exact h

theorem State.formedTimersSound.reportAdjacency (h : s.formedTimersSound) :
    s.reportAdjacency.formedTimersSound := by
  by_cases start : s.cc.formState = .start
  · rw [s.reportAdjacency_start start]
    exact h
  · rw [s.reportAdjacency_running start]
    exact h.startFormation _

/-! ### SOLO and a failed formation (R35, R37, R38) -/

theorem State.formedTimersSound.enterSolo (h : s.formedTimersSound) (tally : s.cc.formState = .tally) :
    s.enterSolo.formedTimersSound := by
  have idle : s.cc.ordering = none := h.1.idle fun gather => nomatch tally.symm.trans gather
  refine h.outside (fun formed => nomatch tally.symm.trans formed) ?_ (.of_none ?_)
  · rw [State.formationTimers, State.enterSolo_dcu, State.enterSolo_hsu]
    rfl
  · rw [State.enterSolo_cc]
    exact idle

/-- A formation fails in TALLY (R35). -/
theorem State.formedTimersSound.failFormation (h : s.formedTimersSound) (tally : s.cc.formState = .tally)
    (r : ReformReason) : (s.failFormation r).formedTimersSound := by
  have counted : s.failCounted.formedTimersSound := h
  obtain below | limit := Nat.lt_or_ge (s.cc.failedCount + 1) Config.failLimit
  · rw [s.failFormation_starts r below]
    exact counted.startFormation r
  · rw [s.failFormation_solo r limit]
    exact counted.enterSolo tally

/-! ### TALLY and FORMED (R28, R31 to R36) -/

theorem State.formedTimersSound_enterFormed (idle : s.cc.ordering = none) (o : CandidateOrder) :
    (s.enterFormed o).formedTimersSound := by
  have committed : (s.enterFormed o).cc.formState = .formed ∧ (s.enterFormed o).cc.ordering = s.cc.ordering := by
    unfold State.enterFormed
    dsimp only
    rw [State.hsuFormedEntry_cc, State.dcuFormedEntry_cc, State.post_cc, State.followCab_cc]
    exact ⟨rfl, rfl⟩
  obtain ⟨formed, ordering⟩ := committed
  exact State.formedTimersSound_of_formed formed (ordering.trans idle)

/-- An agreement set that is complete commits the candidate order (R33). -/
theorem State.formedTimersSound.formIfAgreed (h : s.formedTimersSound) (idle : s.cc.ordering = none)
    (agreement : List Nat) (early : List EarlyTally) (o : CandidateOrder) :
    ((s.setCc { s.cc with agreement := agreement, earlyTallies := early }).formIfAgreed o).formedTimersSound := by
  unfold State.formIfAgreed
  split
  · refine State.formedTimersSound_enterFormed ?_ o
    exact idle
  · exact h.still ((Still.refl s).setCc rfl rfl)

/-- TALLY entry from GATHER ends the computation (R31). -/
theorem State.formedTimersSound.enterTally (h : s.formedTimersSound) (gather : s.cc.formState = .gather)
    (o : CandidateOrder) : (s.enterTally o).formedTimersSound := by
  have entered : (s.inTally o).formedTimersSound :=
    h.outside (fun formed => nomatch gather.symm.trans formed) rfl (.of_none rfl)
  cases mismatch : earlyMismatch o s.cc.earlyTallies with
  | true =>
    rw [s.enterTally_mismatch o mismatch]
    exact entered.failFormation rfl .mismatch
  | false =>
    obtain ⟨a, folded, -⟩ := Cc.foldl_agreeTally o s.cc.earlyTallies (s.cc.forTally o s.id s.now)
    have agreed : (s.inTally o).cc.agreeEarly o = { s.cc.forTally o s.id s.now with agreement := a } :=
      (Cc.agreeEarly_eq _ o).trans folded
    have matched : s.enterTally o
        = ((s.inTally o).setCc { (s.inTally o).cc.agreeEarly o with earlyTallies := [] }).formIfAgreed o :=
      if_neg (ne_true_of_eq_false mismatch)
    rw [matched, agreed]
    exact entered.formIfAgreed rfl a [] o

theorem State.formedTimersSound.endOrdering (h : s.formedTimersSound) : s.endOrdering.formedTimersSound := by
  unfold State.endOrdering
  split
  case h_1 => exact h.still ((Still.refl s).setCc rfl rfl)
  case h_2 o _ running =>
    have gather : s.cc.formState = .gather := h.1 (by rw [running]; rfl)
    exact h.enterTally gather _
  case h_3 => exact h

/-! ### ROLLs and TALLYs taken (R26, R32 to R34) -/

theorem State.formedTimersSound.compareTally (h : s.formedTimersSound) (tally : s.cc.formState = .tally)
    (sender : NodeId) (t : Tally) : (s.compareTally sender t).formedTimersSound := by
  have idle : s.cc.ordering = none := h.1.idle fun gather => nomatch tally.symm.trans gather
  unfold State.compareTally
  split
  case h_2 => exact h
  case h_1 o _ =>
    split
    case h_2 => exact h
    case h_1 p _ =>
      split
      case isFalse => exact h.failFormation tally _
      case isTrue =>
        rw [Cc.agree_eq]
        exact h.formIfAgreed idle _ _ o

theorem State.formedTimersSound.takeTally (h : s.formedTimersSound) (f : Frame) :
    (s.takeTally f).formedTimersSound := by
  unfold State.takeTally
  split
  · exact h
  · split
    case h_1 => exact h.still ((Still.refl s).setCc rfl rfl)
    case h_2 tally => exact h.compareTally tally _ _
    all_goals exact h

theorem State.formedTimersSound.gatherRoll (h : s.formedTimersSound) (gather : s.cc.formState = .gather)
    (r : RollRecord) : (s.gatherRoll r).formedTimersSound := by
  unfold State.gatherRoll
  split
  · have gathered : (s.setCc { s.cc with candidates := putRecord s.cc.candidates r }).formedTimersSound :=
      h.still ((Still.refl s).setCc rfl rfl)
    dsimp only
    split
    · exact gathered
    · exact gathered.testClosure gather
  · split
    · exact h
    · have overflowed : Still s (s.setCc { s.cc with oversize := true }) := (Still.refl s).setCc rfl rfl
      exact h.still (overflowed.post _)

theorem State.formedTimersSound.takeRoll (h : s.formedTimersSound) (f : Frame) :
    (s.takeRoll f).formedTimersSound := by
  unfold State.takeRoll State.compareRoll
  split
  · exact h
  · split
    case h_1 gather => exact h.gatherRoll gather _
    case h_2 | h_3 =>
      split
      · split
        · exact h
        · exact h.startFormation _
      · exact h
    all_goals exact h

/-! ### CAB requests (R21, R38, R173) -/

theorem State.formedTimersSound.acceptCab (h : s.formedTimersSound) (claim : Bool) :
    (s.acceptCab claim).formedTimersSound := by
  have claimed (cab : OwnCab) : (s.setCc { s.cc with ownCab := cab }).formedTimersSound :=
    h.still ((Still.refl s).setCc rfl rfl)
  have written (t : State) : Still t t.writeSoloTable := (Still.refl t).setCc rfl rfl
  unfold State.acceptCab
  split
  case h_1 => exact (claimed .active).still ((written _).post _)
  case h_2 => exact (claimed .noClaim).still (written _)
  all_goals exact (claimed _).startFormation _

theorem State.formedTimersSound.cabRequest (h : s.formedTimersSound) (code : Byte) :
    (s.cabRequest code).1.formedTimersSound := by
  unfold State.cabRequest
  split
  · exact h
  · split
    · exact h
    · split
      · exact h
      · split
        · exact h
        · exact h.acceptCab _

/-! ### End links (R6 to R10) -/

theorem State.formedTimersSound.arriveBeacon (h : s.formedTimersSound) (e : CoachEnd) (bytes : List Byte) :
    (s.arriveBeacon e bytes).formedTimersSound := by
  unfold State.arriveBeacon State.takeBeacon
  split
  case h_2 => exact h.still ((Still.refl s).count _)
  case h_1 n _ =>
    have paired : (s.setEnd e ((s.endLink e).pair n s.now)).formedTimersSound := h.still ((Still.refl s).setEnd _ _)
    dsimp only
    split
    · exact paired
    · exact paired.reportAdjacency

theorem State.formedTimersSound.receiveChars (h : s.formedTimersSound) (e : CoachEnd) (chars : List LineChar) :
    (s.receiveChars e chars).formedTimersSound := by
  have received {t : State} (ht : t.formedTimersSound) (c : LineChar) : (t.receiveChar e c).formedTimersSound := by
    have ended : Still t (t.endFaultyBy e c.start) := (Still.refl t).endFaultyBy e c.start
    unfold State.receiveChar
    split
    · exact ht
    · dsimp only
      split
      · exact State.formedTimersSound.arriveBeacon (ht.still ((ended.advanceTo _).setEnd _ _)) _ _
      · exact ht.still ((ended.advanceTo _).setEnd _ _)
  unfold State.receiveChars
  induction chars generalizing s with
  | nil => exact h
  | cons c cs ih => exact ih (received h c)

/-! ### Frames of the line (R78 to R80, R86, R134) -/

theorem State.formedTimersSound.endReception (h : s.formedTimersSound) (r : Reception) :
    (s.endReception r).formedTimersSound := by
  have counted (c : Counter) : (s.count c).formedTimersSound := h.still ((Still.refl s).count c)
  unfold State.endReception State.routeFrame
  split
  case h_2 => exact counted _
  case h_1 f _ =>
    split
    case isTrue => exact (counted .framesReceived).of_quiet ⟨rfl, rfl, fun _ => rfl⟩
    case isFalse noHold =>
      split
      · exact ((counted .framesReceived).sight f).of_quiet (State.enqueue_quietKeeps _ f noHold).toQuiet
      · exact counted _

theorem State.formedTimersSound.consume (h : s.formedTimersSound) (f : Frame) : (s.consume f).formedTimersSound := by
  unfold State.consume
  cases f.kind with
  | reform | hold => exact h
  | roll => exact h.takeRoll f
  | tally => exact h.takeTally f
  | doorcmd => exact h.of_quiet (s.takeDoorcmd_quietKeeps f).toQuiet
  | doorstat => exact h.still ((Still.refl s).takeDoorstat f)
  | heatbid => exact h.still ((Still.refl s).takeHeatbid f)

end Kept

end Sys2Proof.Machine
end

section
/-! The settled statement about the door summaries, the fault reasons and the timers of FORMED (R28, R121, R125, R137,
R138, R150, R158). -/

namespace Sys2Proof.Machine

/-- The timers of FORMED are off outside it in the one state, hence in the other. -/
def TimersKept (s t : State) : Prop := s.formedTimersSound → t.formedTimersSound

theorem Quiet.timersKept {s t : State} (quiet : Quiet s t) : TimersKept s t := fun h => h.of_quiet quiet

theorem timers_chains : Chains TimersKept where
  still h := h.toQuiet.timersKept
  trans h h' := h' ∘ h

section Commands

variable (s : State)

/-- The computation of a fragment starts at the gather timeout, in GATHER (R29). -/
theorem execGatherTimeout_timers : Leads TimersKept s (execGatherTimeout s) := by
  refine timers_chains.at fun t occasion h => ?_
  unfold State.gatherOccasion at occasion
  obtain ⟨gather, -⟩ := Option.ite_none_right_eq_some.mp occasion
  exact h.startOrdering gather true

/-- A formation fails at the tally timeout, in TALLY (R35). -/
theorem execTallyTimeout_timers : Leads TimersKept s (execTallyTimeout s) := by
  refine timers_chains.at fun t occasion h => ?_
  unfold State.tallyOccasion at occasion
  obtain ⟨tally, -⟩ := Option.ite_none_right_eq_some.mp occasion
  exact h.failFormation tally _

theorem execFormation_timers (i : Instr) (formation : isFormation i = true) : Leads TimersKept s (exec i s) := by
  cases i with
  | debouncedContactLost | beaconLoss =>
    exact timers_chains.occasion fun t h =>
      State.formedTimersSound.reportAdjacency (h.still ((Still.refl t).setEnd _ _))
  | endBeaconArrival e chars => exact timers_chains.service (timers_chains.refl s) fun _ h => h.receiveChars e chars
  | tstartExpiry => exact timers_chains.occasion fun _ h => h.startFormation _
  | rollRepeat =>
    exact timers_chains.occasion fun t h =>
      State.formedTimersSound.renewOwnRecord (h.still (Still.submitRoll (Still.setCc (.refl t) rfl rfl)))
  | gatherTimeout => exact execGatherTimeout_timers s
  | orderingEnd => exact timers_chains.service (timers_chains.refl s) fun _ h => h.endOrdering
  | tallyTimeout => exact execTallyTimeout_timers s
  | reform => exact timers_chains.request fun _ h => h.startFormation _
  | cabClaim code | cabRelease code => exact timers_chains.request fun _ h => h.cabRequest code
  | _ => nomatch formation

theorem execFrameArrival_timers (r : Reception) : Leads TimersKept s (execFrameArrival r s) := by
  unfold execFrameArrival
  split
  · refine timers_chains.service (timers_chains.still ((Still.refl s).setPins _)) fun t h => ?_
    have ended : Still t t.endCarrier := (Still.refl t).setLau _
    dsimp only
    split
    · exact State.formedTimersSound.endReception
        (h.still (ended.setRxp (r := { t.endCarrier.rxp with receiving := false }) (.refl _))) r
    · exact h.still ended
  · exact .next (timers_chains.refl s)

theorem execFrameTake_timers : Leads TimersKept s (execFrameTake s) := by
  refine timers_chains.occasion fun t h => ?_
  split
  case h_1 f rest queue =>
    have taken : Still t ((t.setRxp { t.rxp with queue := rest }).noteFall rest.length) :=
      ((Still.refl t).setRxp (by rw [queue]; exact List.sublist_cons_self f rest)).noteFall _
    unfold State.takeHead
    dsimp only
    split
    · exact (h.still taken).consume f
    · exact h.still (taken.count _)
  case h_2 => exact h

/-- In reset and at release no timer of FORMED runs (R40, R146, R168). -/
theorem timersKept_atReset {t : State} (timers : t.formationTimers = (none, none, none))
    (idle : t.cc.ordering = none) : TimersKept s t :=
  fun _ => State.formedTimersSound_of_off timers idle

theorem exec_timers (i : Instr) : Leads TimersKept s (exec i s) := by
  have events {o : Host.Outcome State Fault Refusal} (h : Leads LeafEvent s o) : Leads TimersKept s o :=
    h.imp fun event => event.quiet.timersKept
  cases others : isCalm i with
  | true =>
    obtain still | formation := Bool.or_eq_true_iff.mp others
    · exact (exec_still s i still).imp fun still => still.toQuiet.timersKept
    · exact execFormation_timers s i formation
  | false =>
    cases i with
    | externalResetAssert =>
      refine .next ?_
      split
      · exact timers_chains.refl s
      · exact timersKept_atReset s rfl rfl
    | externalResetRelease p => exact .next (timersKept_atReset s rfl rfl)
    | frameArrival r => exact execFrameArrival_timers s r
    | frameTake => exact execFrameTake_timers s
    | aMatch i => exact events (execAMatch_event s i)
    | bMatch i => exact events (execBMatch_event s i)
    | rawLeafInputChange leaf input level => exact events (execRawLeafInputChange_event s leaf input level)
    | leafInputFiltered leaf input => exact events (execLeafInputFiltered_event s leaf input)
    | lockComplete leaf => exact events (execLockComplete_event s leaf)
    | unlockFault leaf => exact events (execUnlockFault_event s leaf)
    | leafRecovery leaf => exact events (execLeafRecovery_event s leaf)
    | isolateOn leaf onOff | isolateOff leaf onOff =>
      exact events (leafEvent_chains.request fun t => t.isolateRequest_event leaf onOff)
    | doorIssueRelease action side lo hi | doorIssueClose action side lo hi =>
      exact timers_chains.request fun t => (t.doorIssue_quietKeeps action side lo hi).toQuiet.timersKept
    | _ => nomatch others

end Commands

/-- Settles O6: the summaries follow each passage of a leaf, the reason comes with FAULT, and the timers of FORMED
start in it only and end with it. -/
theorem reportsAndTimersSoundKept : Obligations.ReportsAndTimersSoundKept := by
  unfold Obligations.ReportsAndTimersSoundKept
  refine ⟨fun _ _ sound next => (step_keeps next).summaries sound,
    fun _ _ sound next => (step_keeps next).reasons sound, fun s t sound next => ?_⟩
  exact timers_chains.step exec_timers s t next sound

end Sys2Proof.Machine
end

section
/-! SUPPORT. Which commands take a leaf into RELEASED (R110, R111, R130, R131, R135, R86). -/

namespace Sys2Proof.Machine

/-! ### A DOORCMD at the DCU (R134 to R136) -/

section Doorcmd

variable (s : State)

/-- The state in which the lookup of a DOORCMD has renewed the de-duplication table (R134). -/
def State.looked (f : Frame) (c : DoorCmd) : State :=
  s.setDcu { s.dcu with dedup := (dedupLookup s.dcu.dedup f.sender c.seq s.now).2 }

variable (f : Frame) {c : DoorCmd}

theorem State.takeDoorcmd_repeat (decoded : doorCmdOf f.payload = some c)
    (known : (dedupLookup s.dcu.dedup f.sender c.seq s.now).1 = true) : s.takeDoorcmd f = s.looked f c := by
  unfold State.takeDoorcmd
  rw [decoded]
  exact if_pos known

theorem State.takeDoorcmd_release (decoded : doorCmdOf f.payload = some c)
    (new : (dedupLookup s.dcu.dedup f.sender c.seq s.now).1 = false) (action : c.action = .release) :
    s.takeDoorcmd f = (s.looked f c).receiveRelease f.sender c := by
  unfold State.takeDoorcmd
  rw [decoded]
  refine (if_neg (ne_true_of_eq_false new)).trans ?_
  rw [action]
  rfl

theorem State.takeDoorcmd_close (decoded : doorCmdOf f.payload = some c)
    (new : (dedupLookup s.dcu.dedup f.sender c.seq s.now).1 = false) (action : c.action = .close) :
    s.takeDoorcmd f = (s.looked f c).receiveClose f.number c := by
  unfold State.takeDoorcmd
  rw [decoded]
  refine (if_neg (ne_true_of_eq_false new)).trans ?_
  rw [action]
  rfl

end Doorcmd

theorem doorCmdOf_action {p : List Byte} {c : DoorCmd} (decoded : doorCmdOf p = some c) :
    doorActionOf (p.getD 1 0) = some c.action := by
  unfold doorCmdOf at decoded
  obtain ⟨a, action, decoded⟩ := Option.bind_eq_some_iff.mp decoded
  obtain ⟨d, side, decoded⟩ := Option.bind_eq_some_iff.mp decoded
  obtain rfl := Option.some.inj decoded
  exact action

/-! ### Leaves that pass into RELEASED -/

/-- From one state to another a leaf is in RELEASED only where it was, or where the event is accepted. -/
def ReleasesOnly (accepts : Nat → Prop) (s t : State) : Prop :=
  ∀ i m, t.leaf? i = some m → m.state = .released →
    (∃ l, s.leaf? i = some l ∧ l.state = .released) ∨ accepts i

section Releases

variable {accepts : Nat → Prop} {s t u : State}

theorem LeafEvent.releasesOnly (h : LeafEvent s t) : ReleasesOnly accepts s t :=
  fun i m found state => .inl (h.released i m found state)

theorem ReleasesOnly.of_dlc (h : t.dlc = s.dlc) : ReleasesOnly accepts s t := by
  intro i m found state
  rw [State.leaf?_of_dlc t s h] at found
  exact .inl ⟨m, found, state⟩

theorem ReleasesOnly.trans (h : ReleasesOnly accepts s t) (h' : ReleasesOnly accepts t u) :
    ReleasesOnly accepts s u := by
  intro i m found state
  obtain ⟨l, before, released⟩ | accepted := h' i m found state
  · exact h i l before released
  · exact .inr accepted

/-- A RELEASE reaches the leaves of its sides, in FORMED (R110, R111). -/
theorem State.releaseLeaves_releasesOnly (s : State) (sides : List Side) (n : FormationNumber) :
    ReleasesOnly (fun i => leafSide i ∈ sides) s (s.releaseLeaves sides n) := by
  unfold State.releaseLeaves
  split
  case isFalse => exact .of_dlc rfl
  case isTrue =>
    rw [s.onLeaves_eq sides _ Leaf.release_matchesAtStart]
    intro i m found state
    rw [State.settleLeaves_leaf?, s.passLeaves_leaf? sides Leaf.release_index] at found
    obtain ⟨l, before, rfl⟩ := Option.map_eq_some_iff.mp found
    by_cases named : sides.contains (leafSide l.index) = true
    · rw [s.leaf?_index i l before] at named
      exact .inr (List.contains_iff_mem.mp named)
    · rw [passedLeaf, if_neg named] at state
      exact .inl ⟨l, before, state⟩

/-- A DOORCMD that releases leaves is the active cab's RELEASE, in FORMED, for the own position (R135). -/
def State.acceptsDoorcmd (s : State) (f : Frame) (i : Nat) : Prop :=
  ∃ c, doorCmdOf f.payload = some c ∧ c.action = .release ∧ leafSide i ∈ s.sidesOf c.side
    ∧ s.cc.table.activeCab = some f.sender ∧ s.inRange c = true ∧ s.cc.formState = .formed

theorem State.takeDoorcmd_releasesOnly (s : State) (f : Frame) :
    ReleasesOnly (s.acceptsDoorcmd f) s (s.takeDoorcmd f) := by
  cases decoded : doorCmdOf f.payload with
  | none =>
    rw [s.takeDoorcmd_invalid f decoded]
    exact .of_dlc rfl
  | some c =>
    have looked : ReleasesOnly (s.acceptsDoorcmd f) s (s.looked f c) := .of_dlc rfl
    cases new : (dedupLookup s.dcu.dedup f.sender c.seq s.now).1 with
    | true =>
      rw [s.takeDoorcmd_repeat f decoded new]
      exact looked
    | false =>
      cases action : c.action with
      | close =>
        rw [s.takeDoorcmd_close f decoded new action]
        refine looked.trans ?_
        unfold State.receiveClose
        split
        · split
          · split
            · exact (State.closeLeaves_event _ _).releasesOnly
            · exact .of_dlc rfl
          · exact (State.closeLeaves_event _ _).releasesOnly
        · exact (State.closeLeaves_event _ _).releasesOnly
      | release =>
        rw [s.takeDoorcmd_release f decoded new action]
        refine looked.trans ?_
        unfold State.receiveRelease
        split
        case isTrue => exact .of_dlc rfl
        case isFalse formed =>
          split
          case isTrue => exact .of_dlc rfl
          case isFalse commanding =>
            split
            case isFalse => exact .of_dlc rfl
            case isTrue range =>
              intro i m found state
              refine (State.releaseLeaves_releasesOnly _ _ _ i m found state).imp_right fun side => ?_
              exact ⟨c, decoded, action, side, Classical.not_not.mp commanding, range,
                (s.looked f c).isFormed_eq_true_iff.mp (by simpa using formed)⟩

/-- A DOOR_ISSUE that releases leaves is a RELEASE of the cab in the ACTIVE state, in FORMED (R130, R131). -/
def State.acceptsIssue (s : State) (action side lo hi : Byte) (i : Nat) : Prop :=
  s.cc.formState = .formed ∧ ∃ d, doorActionOf action = some .release ∧ doorSideOf side = some d
    ∧ leafSide i ∈ s.sidesOf d ∧ s.cc.ownCab = .active ∧ lo.toNat ≤ s.ownPosition ∧ s.ownPosition ≤ hi.toNat

theorem State.releaseChecks_none (s : State) (lo hi : Nat) (passes : s.releaseChecks lo hi = none) :
    s.cc.formState = .formed ∧ s.cc.ownCab = .active := by
  by_cases formed : s.cc.formState = .formed
  · by_cases active : s.cc.ownCab = .active
    · exact ⟨formed, active⟩
    · rw [s.releaseChecks_notActive lo hi formed active] at passes
      nomatch passes
  · rw [s.releaseChecks_notFormed lo hi formed] at passes
    nomatch passes

theorem State.doorIssue_releasesOnly (s : State) (action side lo hi : Byte) :
    ReleasesOnly (s.acceptsIssue action side lo hi) s (s.doorIssue action side lo hi).1 := by
  obtain same | ⟨a, d, ha, hd, passes, -, issued⟩ := s.doorIssue_cases action side lo hi
  · rw [same]
    exact .of_dlc rfl
  · rw [issued]
    generalize command : s.issueCommand a d lo.toNat hi.toNat = c
    have scheduled : ReleasesOnly (s.acceptsIssue action side lo hi) s (s.scheduled c) := .of_dlc rfl
    refine scheduled.trans ?_
    have name : c.action = a ∧ c.side = d := by
      rw [← command]
      exact ⟨rfl, rfl⟩
    obtain ⟨rfl, rfl⟩ := name
    unfold State.applyIssue
    split
    case h_2 =>
      split
      · split
        · exact (State.closeLeaves_event _ _).releasesOnly
        · exact .of_dlc rfl
      · exact (State.closeLeaves_event _ _).releasesOnly
    case h_1 release =>
      split
      case isFalse => exact .of_dlc rfl
      case isTrue accepted =>
        obtain ⟨formed, active⟩ := s.releaseChecks_none _ _ (passes release)
        have range : c.rangeFrom = lo.toNat ∧ c.rangeTo = hi.toNat := by
          rw [release] at command
          rw [← command]
          exact ⟨rfl, rfl⟩
        obtain ⟨below, above⟩ := (s.inRange_eq_true_iff c).mp accepted.2
        rw [range.1] at below
        rw [range.2] at above
        intro i m found state
        refine (State.releaseLeaves_releasesOnly _ _ _ i m found state).imp_right fun side => ?_
        exact ⟨formed, c.side, release ▸ ha, hd, side, active, below, above⟩

/-- A frame that is taken releases leaves when it is a DOORCMD of the node's number (R86, R135). -/
def State.acceptsFrame (s : State) (i : Nat) : Prop :=
  ∃ f rest, s.rxp.queue = f :: rest ∧ f.kind = .doorcmd ∧ f.number = s.cc.number ∧ s.acceptsDoorcmd f i

theorem State.takeHead_releasesOnly (s : State) (f : Frame) (rest : List Frame) :
    ReleasesOnly (fun i => f.kind = .doorcmd ∧ f.number = s.cc.number ∧ s.acceptsDoorcmd f i) s
      (s.takeHead f rest) := by
  obtain ⟨lhu, lau, fallen⟩ := (s.setRxp { s.rxp with queue := rest }).noteFall_eq rest.length
  unfold State.takeHead
  rw [fallen]
  dsimp only
  generalize taken : ((s.setRxp { s.rxp with queue := rest }).setLhu lhu).setLau lau = w
  have dlc : w.dlc = s.dlc := by rw [← taken]; rfl
  have calm {t : State} (h : Calm w t) : t.dlc = s.dlc := h.dlc.trans dlc
  split
  case isFalse => exact .of_dlc dlc
  case isTrue handed =>
    have cc : w.cc = s.cc := by rw [← taken]; rfl
    unfold State.consume
    split
    case h_1 | h_2 => exact .of_dlc dlc
    case h_3 => exact .of_dlc (calm ((Calm.refl w).takeRoll f))
    case h_4 => exact .of_dlc (calm ((Calm.refl w).takeTally f))
    case h_6 => exact .of_dlc (calm ((Still.refl w).takeDoorstat f).toCalm)
    case h_7 => exact .of_dlc (calm ((Still.refl w).takeHeatbid f).toCalm)
    case h_5 kind =>
      refine (ReleasesOnly.of_dlc dlc).trans fun i m found state => ?_
      refine (w.takeDoorcmd_releasesOnly f i m found state).imp_right fun accepted => ?_
      have ⟨c, decoded, action, _⟩ := accepted
      have noClose : f.hasCloseAction = false := by
        rw [Frame.hasCloseAction, doorCmdOf_action decoded, action]
        simp
      have equal : f.number = w.cc.number := handed.resolve_right (by rw [noClose]; nofun)
      rw [← taken] at accepted
      exact ⟨kind, cc ▸ equal, accepted⟩

theorem State.takeHead_keepsCc_of_doorcmd (s : State) (f : Frame) (rest : List Frame) (kind : f.kind = .doorcmd) :
    (s.takeHead f rest).cc = s.cc := by
  unfold State.takeHead State.consume
  rw [kind]
  dsimp only
  split <;> simp

/-- FRAME_TAKE takes the head of the queue, or nothing happens (R85). -/
theorem execFrameTake_cases (s : State) :
    execFrameTake s = .next s
      ∨ ∃ f rest, s.rxp.queue = f :: rest ∧ execFrameTake s = .next (s.takeHead f rest) := by
  cases hr : s.inReset with
  | true => exact .inl (congrArg _ (s.onOccasion_inReset _ _ hr))
  | false =>
    cases queue : s.rxp.queue with
    | nil =>
      have none : s.dispatchOccasion = none := by rw [State.dispatchOccasion, queue]
      rw [execFrameTake, none, s.onOccasion_none]
      exact .inl rfl
    | cons f rest =>
      cases busy : s.consumerBusy f.kind with
      | true => exact .inl (execFrameTake_busy s f rest queue busy)
      | false => exact .inr ⟨f, rest, rfl, execFrameTake_free s f rest hr queue busy⟩

/-- Only the take of an accepted DOORCMD releases a leaf, and it leaves the CC. -/
theorem execFrameTake_releases (s t : State) (next : execFrameTake s = .next t) :
    ReleasesOnly (fun i => s.acceptsFrame i ∧ t.cc = s.cc) s t := by
  obtain waits | ⟨f, rest, queue, taken⟩ := execFrameTake_cases s
  · obtain rfl := Host.Outcome.next.inj (waits.symm.trans next)
    exact .of_dlc rfl
  · obtain rfl := Host.Outcome.next.inj (taken.symm.trans next)
    intro i m found state
    refine (s.takeHead_releasesOnly f rest i m found state).imp_right fun ⟨kind, number, accepted⟩ => ?_
    exact ⟨⟨f, rest, queue, kind, number, accepted⟩, s.takeHead_keepsCc_of_doorcmd f rest kind⟩

theorem State.doorIssueRequest_releases (s : State) (i : Instr) (action side lo hi : Byte) :
    ReleasesOnly (s.acceptsIssue action side lo hi) s (s.onRequest i fun s => s.doorIssue action side lo hi)
      ∧ (s.onRequest i fun s => s.doorIssue action side lo hi).cc = s.cc := by
  obtain same | taken | taken := s.onRequest_cases i fun s => s.doorIssue action side lo hi
  · rw [same]
    exact ⟨.of_dlc rfl, rfl⟩
  · rw [taken]
    exact ⟨s.doorIssue_releasesOnly action side lo hi, (s.doorIssue_keepsCc action side lo hi).1⟩
  · rw [taken]
    exact ⟨(s.setPort { s.port with phase := .kind }).doorIssue_releasesOnly action side lo hi,
      ((s.setPort { s.port with phase := .kind }).doorIssue_keepsCc action side lo hi).1⟩

/-- No leaf is RELEASED at the reset values (R127). -/
theorem State.released_releasesOnly (s : State) (st : Straps) (accepts : Nat → Prop) :
    ReleasesOnly accepts s (s.released st) := by
  intro i m found state
  rw [Dlc.atRelease_leaf st s.pins m (List.mem_of_find?_eq_some found), Leaf.atRelease] at state
  revert state
  cases s.pins.cl.getD m.index false <;> nofun

theorem State.endReception_dlc (s : State) (r : Reception) : (s.endReception r).dlc = s.dlc := by
  unfold State.endReception State.routeFrame State.acceptFrame
  split
  case h_1 f _ =>
    split
    · rfl
    · split
      · obtain ⟨-, -, -, -, queued, -⟩ := ((s.count .framesReceived).sight f).enqueue_frame f
        obtain ⟨-, -, -, -, -, sighted, -⟩ := (s.count .framesReceived).sight_frame f
        exact queued.trans sighted
      · rfl
  case h_2 => rfl

theorem execFrameArrival_dlc (s t : State) (r : Reception) (next : execFrameArrival r s = .next t) :
    t.dlc = s.dlc := by
  obtain rfl := Host.Outcome.next.inj next
  split
  case isFalse => rfl
  case isTrue =>
    cases hr : (s.setPins { s.pins with peerCarrier := false }).inReset with
    | true => rw [State.inService_inReset _ _ hr]; rfl
    | false =>
      rw [State.inService_running _ _ hr]
      dsimp only
      split
      · exact State.endReception_dlc _ r
      · rfl

end Releases

end Sys2Proof.Machine
end

section
/-! The settled statement about releases (R110, R111, R130, R131, R135). -/

namespace Sys2Proof.Machine

/-- What brings a leaf into RELEASED in a command. -/
def releasesAccepted (i : Instr) (s t : State) (leaf : Nat) : Prop :=
  t.cc = s.cc ∧
    ((i = .frameTake ∧ s.acceptsFrame leaf)
      ∨ ∃ action side lo hi, (i = .doorIssueRelease action side lo hi ∨ i = .doorIssueClose action side lo hi)
          ∧ s.acceptsIssue action side lo hi leaf)

/-- A command releases a leaf by an accepted RELEASE alone. -/
theorem exec_releases (s t : State) (i : Instr) (next : exec i s = .next t) :
    ReleasesOnly (releasesAccepted i s t) s t := by
  have event {o : Host.Outcome State Fault Refusal} (h : Leads LeafEvent s o) (same : o = .next t) :
      ReleasesOnly (releasesAccepted i s t) s t := (h t same).releasesOnly
  have issued (action side lo hi : Byte)
      (named : i = .doorIssueRelease action side lo hi ∨ i = .doorIssueClose action side lo hi)
      (asked : s.onRequest i (fun s => s.doorIssue action side lo hi) = t) :
      ReleasesOnly (releasesAccepted i s t) s t := by
    obtain ⟨releases, cc⟩ := s.doorIssueRequest_releases i action side lo hi
    rw [asked] at releases cc
    intro leaf m found state
    exact (releases leaf m found state).imp_right fun accepted =>
      ⟨cc, .inr ⟨action, side, lo, hi, named, accepted⟩⟩
  cases calm : isCalm i with
  | true => exact .of_dlc (exec_calm s i calm t next).dlc
  | false =>
    cases i with
    | externalResetAssert =>
      obtain rfl := Host.Outcome.next.inj next
      split
      · exact .of_dlc rfl
      · exact fun i m found => nomatch found
    | externalResetRelease p =>
      obtain rfl := Host.Outcome.next.inj next
      exact s.released_releasesOnly _ _
    | frameArrival r => exact .of_dlc (execFrameArrival_dlc s t r next)
    | frameTake =>
      intro i m found state
      exact (execFrameTake_releases s t next i m found state).imp_right fun ⟨accepted, cc⟩ => ⟨cc, .inl ⟨rfl, accepted⟩⟩
    | aMatch j => exact event (execAMatch_event s j) next
    | bMatch j => exact event (execBMatch_event s j) next
    | rawLeafInputChange leaf input level => exact event (execRawLeafInputChange_event s leaf input level) next
    | leafInputFiltered leaf input => exact event (execLeafInputFiltered_event s leaf input) next
    | lockComplete leaf => exact event (execLockComplete_event s leaf) next
    | unlockFault leaf => exact event (execUnlockFault_event s leaf) next
    | leafRecovery leaf => exact event (execLeafRecovery_event s leaf) next
    | isolateOn leaf onOff | isolateOff leaf onOff =>
      exact event (leafEvent_chains.request fun t => t.isolateRequest_event leaf onOff) next
    | doorIssueRelease action side lo hi => exact issued action side lo hi (.inl rfl) (Host.Outcome.next.inj next)
    | doorIssueClose action side lo hi => exact issued action side lo hi (.inr rfl) (Host.Outcome.next.inj next)
    | _ => nomatch calm

/-- What a command accepts, its state has accepted with the command at the front of the queue. -/
theorem State.acceptsRelease_of_accepted (s t : State) (i : Instr) (rest : List Instr) (leaf : Nat)
    (front : s.pending = i :: rest) (h : releasesAccepted i { s with pending := rest } t leaf) :
    s.acceptsRelease (leafSide leaf) ∧ t.cc = s.cc := by
  obtain ⟨cc, ⟨rfl, f, fs, queue, kind, number, c, decoded, action, side, cab, range, formed⟩
    | ⟨code, sideByte, lo, hi, named, formed, d, action, decoded, side, cab, below, above⟩⟩ := h
  · exact ⟨⟨formed, .inl ⟨rest, f, fs, c, front, queue, kind, number, decoded, action, side, cab, range⟩⟩, cc⟩
  · refine ⟨⟨formed, .inr ⟨rest, code, sideByte, lo, hi, d, ?_, action, decoded, side, cab, below, above⟩⟩, cc⟩
    obtain rfl | rfl := named
    · exact .inl front
    · exact .inr front

/-- Settles O13: of all commands only the take of a DOORCMD and a DOOR_ISSUE can release a leaf, each after the checks
of its RELEASE. -/
theorem releasedOnlyByAcceptedRelease : Obligations.ReleasedOnlyByAcceptedRelease := by
  intro s t i l m next found locked found' released
  unfold step at next
  split at next
  case h_1 c rest front =>
    obtain ⟨l', before, state⟩ | accepted := exec_releases _ t c next i m found' released
    · obtain rfl := Option.some.inj (found.symm.trans before)
      exact absurd state locked
    · obtain ⟨accepts, cc⟩ := s.acceptsRelease_of_accepted t c rest i front accepted
      have ⟨formed, _⟩ := accepts
      exact ⟨accepts, cc ▸ formed, cc ▸ rfl⟩
  case h_2 =>
    obtain rfl := Host.Outcome.next.inj next
    have same := s.idle_still.toCalm.leaf? i
    obtain rfl := Option.some.inj (found.symm.trans (same.symm.trans found'))
    exact absurd released locked

end Sys2Proof.Machine
end

section
/-! The settled statement about the times of the hold list and the own hold (R89, R92). -/

namespace Sys2Proof.Machine

theorem exec_holdResend (s : State) : exec .holdResend s = execHoldResend s := rfl

theorem exec_ownHoldExpiry (s : State) : exec .ownHoldExpiry s = execOwnHoldExpiry s := rfl

theorem exec_holdExpiry (peer : NodeId) (s : State) : exec (.holdExpiry peer) s = execHoldExpiry peer s := rfl

/-- Settles O42: each of the three timers acts at its occasion. -/
theorem holdTimersRunOut : Obligations.HoldTimersRunOut := by
  unfold Obligations.HoldTimersRunOut
  refine ⟨fun s t e hr congested own resend => ?_, fun s e hr own resend => ?_, fun s h hr found => ?_⟩
  · have occasion : s.resendOccasion = some t := by simp [State.resendOccasion, congested, own, resend]
    rw [exec_holdResend, execHoldResend, occasion, State.onOccasion_some _ _ _ hr]
    exact ⟨_, rfl, rfl, ⟨_, rfl, rfl, holdOf_sent, rfl⟩, rfl, rfl, rfl, rfl, rfl⟩
  · have occasion : s.ownHoldOccasion = some e := by simp [State.ownHoldOccasion, own, resend]
    rw [exec_ownHoldExpiry, execOwnHoldExpiry, occasion, State.onOccasion_some _ _ _ hr]
    rfl
  · have occasion : s.holdOccasion h.peer = some h.expiresAt := by simp [State.holdOccasion, found]
    rw [exec_holdExpiry, execHoldExpiry, occasion, State.onOccasion_some _ _ _ hr]
    rfl

end Sys2Proof.Machine
end

section
/-! SUPPORT. What the commands of one leaf come to at their occasions: filtered inputs, the CL watches, isolation (R108,
R115, R116, R120 to R124). -/

namespace Sys2Proof.Machine

/-! ### The dispatcher, for the leaf commands -/

theorem exec_leafInputFiltered (i : Nat) (input : LeafInput) (s : State) :
    exec (.leafInputFiltered i input) s = execLeafInputFiltered i input s := rfl

theorem exec_lockComplete (i : Nat) (s : State) : exec (.lockComplete i) s = execLockComplete i s := rfl

theorem exec_unlockFault (i : Nat) (s : State) : exec (.unlockFault i) s = execUnlockFault i s := rfl

theorem exec_leafRecovery (i : Nat) (s : State) : exec (.leafRecovery i) s = execLeafRecovery i s := rfl

section Occasions

variable {s : State} {i : Nat} {l : Leaf} {t : Time} (hr : s.inReset = false) (found : s.leaf? i = some l)

include hr found

/-! ### Filtered inputs (R108) -/

theorem exec_clFiltered_eq (due : l.clFilter = some t) :
    exec (.leafInputFiltered i .cl) s = .next ((s.advanceTo t).takeClChange l) := by
  have occasion : s.filterOccasion i .cl = some t := by simp [State.filterOccasion, found, Leaf.pendingFilter, due]
  have found' : (s.advanceTo t).leaf? i = some l := found
  rw [exec_leafInputFiltered, execLeafInputFiltered, occasion, State.onOccasion_some _ _ _ hr]
  simp only [found']

theorem exec_obFiltered_eq (due : l.obFilter = some t) :
    exec (.leafInputFiltered i .ob) s = .next ((s.advanceTo t).takeObChange l) := by
  have occasion : s.filterOccasion i .ob = some t := by simp [State.filterOccasion, found, Leaf.pendingFilter, due]
  have found' : (s.advanceTo t).leaf? i = some l := found
  rw [exec_leafInputFiltered, execLeafInputFiltered, occasion, State.onOccasion_some _ _ _ hr]
  simp only [found']

/-! ### The watches (R115, R120, R122) -/

omit hr in
theorem State.watchOccasion_running (st : LeafState) (span : Time) (state : l.state = st) (watch : l.watch = some t) :
    s.watchOccasion i st span = some (t + span) := by
  simp [State.watchOccasion, found, state, watch]

theorem exec_lockComplete_eq (state : l.state = .closingDrive) (watch : l.watch = some t) :
    exec (.lockComplete i) s
      = .next (((s.advanceTo (t + Config.ms 50)).putLeaf
          (l.enterLocked (s.advanceTo (t + Config.ms 50)).now) .stop).settleLeaves) := by
  have found' : (s.advanceTo (t + Config.ms 50)).leaf? i = some l := found
  rw [exec_lockComplete, execLockComplete, State.watchOccasion_running found _ _ state watch,
    State.onOccasion_some _ _ _ hr]
  exact congrArg Host.Outcome.next (by simp only [Config.tCLSET, found'])

theorem exec_unlockFault_eq (state : l.state = .locked) (watch : l.watch = some t) :
    exec (.unlockFault i) s = .next ((s.advanceTo (t + Config.ms 200)).faultLeaf l .unlocked) := by
  have found' : (s.advanceTo (t + Config.ms 200)).leaf? i = some l := found
  rw [exec_unlockFault, execUnlockFault, State.watchOccasion_running found _ _ state watch,
    State.onOccasion_some _ _ _ hr]
  exact congrArg Host.Outcome.next (by simp only [Config.tUNLOCK, found'])

theorem exec_leafRecovery_eq (state : l.state = .fault) (watch : l.watch = some t) :
    exec (.leafRecovery i) s
      = .next ((((s.advanceTo (t + Config.ms 1000)).putLeaf
          (l.enterLocked (s.advanceTo (t + Config.ms 1000)).now) .keep).post (.leafRecovered i)).settleLeaves) := by
  have found' : (s.advanceTo (t + Config.ms 1000)).leaf? i = some l := found
  rw [exec_leafRecovery, execLeafRecovery, State.watchOccasion_running found _ _ state watch,
    State.onOccasion_some _ _ _ hr]
  exact congrArg Host.Outcome.next (by simp only [Config.tRECOVER, found'])

end Occasions

/-- The CL watch after a change of the filtered CL (R115, R120, R122). -/
theorem Leaf.watchAfterCl_changed (l : Leaf) (now : Time) :
    ({ l with cl := !l.cl, clFilter := none } : Leaf).watchAfterCl now =
      if l.state = .closingDrive ∨ l.state = .fault then if l.cl then none else some now
      else if l.state = .locked then if l.cl then some now else none
      else l.watch := by
  unfold Leaf.watchAfterCl
  cases l.cl <;> cases l.state <;> rfl

/-- An OB that becomes active in CLOSING_DRIVE is an obstruction (R116). -/
theorem State.takeObChange_obstructs (s : State) (l : Leaf) (clear : l.ob = false) (state : l.state = .closingDrive) :
    s.takeObChange l = s.obstructLeaf { l with ob := true, obFilter := none } := by
  unfold State.takeObChange
  dsimp only
  rw [if_pos ⟨by rw [clear]; rfl, state⟩, clear]
  rfl

theorem State.takeObChange_other (s : State) (l : Leaf) (other : l.ob = true ∨ l.state ≠ .closingDrive) :
    s.takeObChange l = s.setDlc (s.dlc.put { l with ob := !l.ob, obFilter := none }) := by
  refine if_neg fun ⟨active, state⟩ => ?_
  obtain was | out := other
  · rw [was] at active
    nomatch active
  · exact out state

/-- What a stop does to the channel of a leaf that runs. -/
theorem State.putLeaf_stopped (s : State) (l l' : Leaf) (found : s.leaf? l'.index = some l) (c : Channel)
    (hc : s.otb.channel? l'.index = some c) (mode : c.mode = .sequence) :
    (s.putLeaf l' .stop).settleLeaves.otb.channel? l'.index
      = some { c with mode := .off, base := 0, output := false } := by
  obtain ⟨-, -, otb⟩ := s.putLeaf_settled l l' .stop found
  rw [otb, ← c.stopRun_running mode]
  exact s.otb.modify_channel?_same l'.index Channel.stopRun c hc

/-! ### Isolation (R123, R124) -/

/-- Either row of the ISOLATE request acts on its bytes (log entry 19). -/
theorem exec_isolate_open (s : State) (leaf code : Byte) (i : Instr) (hp : s.portOpen)
    (hi : i = .isolateOn leaf code ∨ i = .isolateOff leaf code) (t : State) (r : Result)
    (acts : s.isolateRequest leaf code = (t, answer r)) :
    exec i s = .next (t.setPort (t.port.prepare t.now (answer r))) := by
  obtain ⟨hr, hk⟩ := hp
  obtain rfl | rfl := hi
  · rw [exec_isolateOn, execIsolateOn, State.onRequest_open _ _ _ hr hk, acts]
  · rw [exec_isolateOff, execIsolateOff, State.onRequest_open _ _ _ hr hk, acts]

section Isolate

variable (s : State) {leaf code : Byte} {l : Leaf}

theorem State.isolateRequest_badValue (off : code ≠ 0x00) (on : code ≠ 0x01) :
    s.isolateRequest leaf code = (s, answer .badValue) := by
  have none : onOffOf code = none := by rw [onOffOf, if_neg off, if_neg on]
  rw [State.isolateRequest, none]

theorem State.isolateRequest_noLeaf (valid : code = 0x00 ∨ code = 0x01) (absent : s.leaf? leaf.toNat = none) :
    s.isolateRequest leaf code = (s, answer .noLeaf) := by
  obtain rfl | rfl := valid <;> rw [State.isolateRequest, absent] <;> rfl

theorem State.isolateRequest_on (found : s.leaf? leaf.toNat = some l) :
    s.isolateRequest leaf 0x01 = ((s.putLeaf l.isolate .stop).settleLeaves, answer .ok) := by
  rw [State.isolateRequest, found]
  rfl

theorem State.isolateRequest_off (found : s.leaf? leaf.toNat = some l) :
    s.isolateRequest leaf 0x00 = (s.endIsolation l, answer .ok) := by
  rw [State.isolateRequest, found]
  rfl

end Isolate

end Sys2Proof.Machine
end

section
/-! The settled statement about filtered inputs and the CL watches (R108, R115, R116, R120 to R122). -/

namespace Sys2Proof.Machine

section Results

variable {s : State} {i : Nat} {l : Leaf}

/-- What an obstruction that stands in CLOSING_DRIVE does to the leaf and the counters. -/
theorem State.obstructLeaf_result (l' : Leaf) (found : s.leaf? i = some l) (index : l'.index = i) :
    (l'.obstructions + 1 < 3 → (s.obstructLeaf l').port.counters = s.port.counters
      ∧ (s.obstructLeaf l').leaf? i
        = some { l' with state := .reopen, watch := none, obstructions := l'.obstructions + 1 })
    ∧ (3 ≤ l'.obstructions + 1 →
      (s.obstructLeaf l').port.counters = s.port.counters.set 12 (s.port.counter 12 + 1)
      ∧ (s.obstructLeaf l').leaf? i
        = some (Leaf.enterFault { l' with watch := none, obstructions := l'.obstructions + 1 } s.now .obstructed)) := by
  subst index
  refine ⟨fun few => ?_, fun many => ?_⟩
  · rw [s.obstructLeaf_reopens l' few]
    obtain ⟨counters, leaf, -⟩ := s.putLeaf_settled l
      { l' with state := .reopen, watch := none, obstructions := l'.obstructions + 1 } (.start 2000 10000) found
    exact ⟨counters, leaf⟩
  · rw [s.obstructLeaf_faults l' many]
    refine ⟨s.faultLeaf_portCounters _ _, ?_⟩
    rw [s.faultLeaf_leaf? l { l' with watch := none, obstructions := l'.obstructions + 1 } .obstructed _ found,
      if_pos rfl]

end Results

/-- Settles O47: each command at its occasion, by the leaf's state and inputs. -/
theorem leafInputsAndWatchesAct : Obligations.LeafInputsAndWatchesAct := by
  intro s i l t hr found
  obtain rfl := s.leaf?_index i l found
  refine ⟨fun due => ?_, fun due other => ?_, fun due clear state _ => ?_, fun state watch => ?_, fun state watch => ?_,
    fun state watch => ?_⟩
  · rw [exec_clFiltered_eq hr found due, State.takeClChange]
    dsimp only
    rw [l.watchAfterCl_changed]
    rfl
  · rw [exec_obFiltered_eq hr found due, State.takeObChange_other _ l other]
    rfl
  · rw [exec_obFiltered_eq hr found due, State.takeObChange_obstructs _ l clear state]
    have found' : (s.advanceTo t).leaf? l.index = some l := found
    exact ⟨_, rfl, State.obstructLeaf_result { l with ob := true, obFilter := none } found' rfl⟩
  · refine ⟨_, exec_lockComplete_eq hr found state watch, ?_⟩
    generalize ht : s.advanceTo (t + Config.ms 50) = v
    have v_facts : v.now = max s.now (t + Config.ms 50) ∧ v.port = s.port ∧ v.cc = s.cc ∧ v.hsu = s.hsu
        ∧ v.otb = s.otb ∧ v.leaf? l.index = some l := by
      rw [← ht]
      exact ⟨rfl, rfl, rfl, rfl, rfl, found⟩
    obtain ⟨now, port, cc, hsu, otb, found'⟩ := v_facts
    obtain ⟨counters, leaf, -⟩ := v.putLeaf_settled l (l.enterLocked v.now) .stop found'
    rw [State.settleLeaves_now, State.settleLeaves_cc, State.settleLeaves_hsu, counters, port]
    refine ⟨now, rfl, cc, hsu, leaf, fun c hc mode => ?_⟩
    exact v.putLeaf_stopped l (l.enterLocked v.now) found' c (otb ▸ hc) mode
  · refine ⟨_, exec_unlockFault_eq hr found state watch, ?_⟩
    rw [State.faultLeaf_portCounters, State.faultLeaf_now, State.faultLeaf_cc, State.faultLeaf_hsu]
    refine ⟨rfl, rfl, rfl, rfl, fun room => State.faultLeaf_notice _ l _ (Nat.succ_lt_succ room), ?_⟩
    exact (State.faultLeaf_leaf? (s.advanceTo (t + Config.ms 200)) l l .unlocked l.index found).trans (if_pos rfl)
  · refine ⟨_, exec_leafRecovery_eq hr found state watch, ?_⟩
    generalize ht : s.advanceTo (t + Config.ms 1000) = v
    have v_facts : v.now = max s.now (t + Config.ms 1000) ∧ v.port = s.port ∧ v.cc = s.cc ∧ v.hsu = s.hsu
        ∧ v.leaf? l.index = some l := by
      rw [← ht]
      exact ⟨rfl, rfl, rfl, rfl, found⟩
    obtain ⟨now, port, cc, hsu, found'⟩ := v_facts
    rw [State.settleLeaves_now, State.settleLeaves_cc, State.settleLeaves_hsu, State.settleLeaves_portCounters,
      State.post_portCounters, State.settleLeaves_leaf?, State.post_leaf?]
    refine ⟨now, congrArg Port.counters port, cc, hsu, fun room => State.settleLeaves_mem_notices _ _ ?_, ?_⟩
    · rw [State.post_notices _ _ (by rw [State.putLeaf_port, port]; exact room)]
      exact List.mem_append_right _ (List.mem_singleton_self _)
    · exact (v.putLeaf_leaf? l (l.enterLocked v.now) .keep l.index found').trans (if_pos rfl)

end Sys2Proof.Machine
end

section
/-! The settled statement about isolation (R123, R124, R184). -/

namespace Sys2Proof.Machine

/-- What a passage of one leaf leaves of the other leaves and of the other blocks. -/
theorem State.putLeaf_frame (s : State) (l l' : Leaf) (o : ChannelOrder) (found : s.leaf? l'.index = some l) :
    (∀ j, j ≠ l'.index → (s.putLeaf l' o).settleLeaves.leaf? j = s.leaf? j)
      ∧ (s.putLeaf l' o).settleLeaves.cc = s.cc ∧ (s.putLeaf l' o).settleLeaves.hsu = s.hsu
      ∧ (s.putLeaf l' o).settleLeaves.rxp = s.rxp ∧ (s.putLeaf l' o).settleLeaves.lhu = s.lhu := by
  refine ⟨fun j other => ?_, by simp, by simp, by simp, by simp⟩
  rw [State.settleLeaves_leaf?, s.putLeaf_leaf? l l' o j found, if_neg other]

/-- Settles O48: the two bytes choose among five outcomes. -/
theorem isolationTakesLeafOut : Obligations.IsolationTakesLeafOut := by
  intro s leaf code i hp hi
  refine ⟨fun off on => ?_, fun valid absent => ?_, fun l on found => ?_, fun l off found out => ?_,
    fun l off found isolated => ?_⟩
  · exact exec_isolate_open s leaf code i hp hi s .badValue (s.isolateRequest_badValue off on)
  · exact exec_isolate_open s leaf code i hp hi s .noLeaf (s.isolateRequest_noLeaf valid absent)
  · subst on
    refine ⟨_, exec_isolate_open s leaf 0x01 i hp hi _ .ok (s.isolateRequest_on found), rfl, ?_⟩
    have index := s.leaf?_index _ l found
    rw [← index] at found ⊢
    obtain ⟨counters, here, -⟩ := s.putLeaf_settled l l.isolate .stop found
    obtain ⟨others, cc, hsu, rxp, lhu⟩ := s.putLeaf_frame l l.isolate .stop found
    exact ⟨counters, here, others, fun c hc mode => s.putLeaf_stopped l l.isolate found c hc mode, cc, hsu, rxp, lhu⟩
  · subst off
    refine exec_isolate_open s leaf 0x00 i hp hi s .ok ?_
    rw [s.isolateRequest_off found, State.endIsolation, if_neg out]
  · subst off
    refine ⟨_, exec_isolate_open s leaf 0x00 i hp hi _ .ok (s.isolateRequest_off found), rfl, ?_⟩
    have index := s.leaf?_index _ l found
    rw [← index] at found ⊢
    rw [State.endIsolation, if_pos isolated]
    by_cases cl : l.cl = true
    · rw [if_pos cl]
      obtain ⟨counters, here, -⟩ := s.putLeaf_settled l (l.enterLocked s.now) .keep found
      obtain ⟨others, frame⟩ := s.putLeaf_frame l (l.enterLocked s.now) .keep found
      have record : l.enterLocked s.now = { l with state := .locked, reason := none, watch := none } := by
        rw [Leaf.enterLocked, if_pos cl]
      exact ⟨fun _ => ⟨counters, here.trans (congrArg some record)⟩, fun open' => absurd cl (ne_true_of_eq_false open'),
        others, frame⟩
    · rw [if_neg cl]
      have record : l.enterFault s.now .unlocked
          = { l with state := .fault, reason := some .unlocked, watch := none } := by
        rw [Leaf.enterFault, if_neg cl]
      have leaf (j : Nat) := s.faultLeaf_leaf? l l .unlocked j found
      refine ⟨fun closed' => absurd closed' cl, fun _ => ⟨s.faultLeaf_portCounters l _, fun room => ?_, ?_⟩,
        fun j other => ?_, ?_⟩
      · exact s.faultLeaf_notice l _ (Nat.succ_lt_succ room)
      · exact (leaf l.index).trans ((if_pos rfl).trans (congrArg some record))
      · exact (leaf j).trans (if_neg other)
      · exact ⟨s.faultLeaf_cc l _, s.faultLeaf_hsu l _, s.faultLeaf_rxp l _, s.faultLeaf_lhu l _⟩

end Sys2Proof.Machine
end

section
/-! The settled statement about the commands of the leaves and the DOORCMDs taken (R86, R110 to R113, R134 to R136,
R189). -/

namespace Sys2Proof.Machine

/-! ### RELEASE and CLOSE at the leaves (R110 to R113) -/

section Leaves

variable (s : State) (sides : List Side) {i : Nat} {l : Leaf}

theorem State.releaseLeaves_refused (n : FormationNumber) (h : ¬(s.cc.formState = .formed ∧ n = s.cc.number)) :
    s.releaseLeaves sides n = s :=
  if_neg fun ⟨formed, number⟩ => h ⟨s.isFormed_eq_true_iff.mp formed, number⟩

theorem State.releaseLeaves_leaf? (formed : s.cc.formState = .formed) (found : s.leaf? i = some l) :
    (s.releaseLeaves sides s.cc.number).leaf? i = some (passedLeaf sides Leaf.release l) := by
  rw [s.releaseLeaves_eq sides _ (s.isFormed_eq_true_iff.mpr formed) rfl, State.settleLeaves_leaf?,
    s.passLeaves_leaf? sides Leaf.release_index, found]
  rfl

theorem State.closeLeaves_leaf? (found : s.leaf? i = some l) :
    (s.closeLeaves sides).leaf? i = some (passedLeaf sides Leaf.close l) := by
  rw [s.closeLeaves_eq sides, State.settleLeaves_leaf?, s.passLeaves_leaf? sides Leaf.close_index, found]
  rfl

theorem State.closeLeaves_channel? (nodup : (s.dlc.leaves.map Leaf.index).Nodup) (found : s.leaf? i = some l) :
    (s.closeLeaves sides).otb.channel? i
      = (s.otb.channel? i).map ((passedOrder sides Leaf.close l).act s.now) := by
  rw [s.closeLeaves_eq sides, State.settleLeaves_otb, s.passLeaves_channel? sides nodup, found]

end Leaves

theorem Leaf.release_active (l : Leaf)
    (active : l.state = .locked ∨ l.state = .closingWarn ∨ l.state = .closingDrive ∨ l.state = .reopen) :
    l.release.1 = { l with state := .released, watch := none } := by
  unfold Leaf.release
  obtain h | h | h | h := active <;> rw [h]

theorem Leaf.release_resting (l : Leaf) (rests : l.state = .released ∨ l.state = .fault ∨ l.state = .isolated) :
    l.release.1 = l := by
  unfold Leaf.release
  obtain h | h | h := rests <;> rw [h]

theorem Leaf.close_opens (l : Leaf) (opens : l.state = .released ∨ l.state = .fault) : l.close = l.enterWarn := by
  unfold Leaf.close
  obtain h | h := opens <;> rw [h]

theorem Leaf.close_other (l : Leaf) (other : l.state ≠ .released ∧ l.state ≠ .fault) : l.close.1 = l := by
  obtain ⟨released, fault⟩ := other
  unfold Leaf.close
  split
  case h_1 state => exact absurd state released
  case h_2 state => exact absurd state fault
  all_goals rfl

theorem passedLeaf_named {sides : List Side} {p : Leaf → Leaf × ChannelOrder} {l : Leaf}
    (named : sides.contains (leafSide l.index) = true) : passedLeaf sides p l = (p l).1 :=
  if_pos named

theorem passedLeaf_other {sides : List Side} {p : Leaf → Leaf × ChannelOrder} {l : Leaf}
    (other : sides.contains (leafSide l.index) = false) : passedLeaf sides p l = l :=
  if_neg (ne_true_of_eq_false other)

/-- A sound leaf in RELEASED has its channel OFF (R119). -/
theorem State.leavesSound.released_off {s : State} (h : s.leavesSound) {i : Nat} {l : Leaf} (found : s.leaf? i = some l)
    (state : l.state = .released) (c : Channel) (hc : s.otb.channel? i = some c) :
    c.mode = .off ∧ c.output = false := by
  obtain ⟨-, -, bound, agree⟩ := h
  have leaf : i < 8 := s.leaf?_index i l found ▸ bound l (List.mem_of_find?_eq_some found)
  have here := agree i leaf c hc
  rw [found] at here
  exact (leafAgrees_resting_iff l c (by rw [state]; rfl)).mp here

/-! ### The de-duplication table (R134) -/

section Dedup

variable (ds : List DedupEntry) (issuer : NodeId) (seq : Byte) (now : Time)

theorem dedupLookup_known (d : DedupEntry) (found : ds.find? (fun d => d.issuer = issuer) = some d)
    (held : seq ∈ d.seqs) :
    dedupLookup ds issuer seq now
      = (true, ds.filter (fun d => d.issuer ≠ issuer) ++ [{ d with lastUse := now }]) := by
  unfold dedupLookup
  rw [found]
  exact if_pos (List.contains_iff_mem.mpr held)

theorem dedupLookup_new (d : DedupEntry) (found : ds.find? (fun d => d.issuer = issuer) = some d)
    (fresh : seq ∉ d.seqs) :
    dedupLookup ds issuer seq now
      = (false, ds.filter (fun d => d.issuer ≠ issuer) ++ [{ d with
          seqs := (if d.seqs.length < 4 then d.seqs else d.seqs.drop 1) ++ [seq], lastUse := now }]) := by
  have joined : joinSeq d.seqs seq = (if d.seqs.length < 4 then d.seqs else d.seqs.drop 1) ++ [seq] := by
    unfold joinSeq
    split <;> rfl
  unfold dedupLookup
  rw [found, ← joined]
  exact if_neg fun held => fresh (List.contains_iff_mem.mp held)

theorem dedupLookup_stranger (none : ds.find? (fun d => d.issuer = issuer) = none) :
    dedupLookup ds issuer seq now
      = (false,
        (if ds.length < 4 then ds else ds.drop 1) ++ [{ issuer := issuer, seqs := [seq], lastUse := now }]) := by
  unfold dedupLookup
  rw [none]
  dsimp only
  split <;> rfl

end Dedup

/-! ### The take of a DOORCMD (R86, R135, R136, R189) -/

theorem doorActionOf_close_iff (b : Byte) : doorActionOf b = some .close ↔ b = 0x02 := by
  unfold doorActionOf
  split
  case isTrue release => simp [release]
  case isFalse other => split <;> simp_all

theorem Frame.hasCloseAction_iff (f : Frame) (kind : f.kind = .doorcmd) :
    f.hasCloseAction = true ↔ f.payload.getD 1 0 = 0x02 := by
  rw [← doorActionOf_close_iff, Frame.hasCloseAction, kind]
  simp

/-- The state after the removal of the head, in which its consumer acts (R86, R90; log entry 18). -/
def State.headTaken (s : State) (rest : List Frame) : State :=
  (s.setRxp { s.rxp with queue := rest }).noteFall rest.length

/-- What the removal of the head leaves. -/
theorem State.headTaken_frame (s : State) (rest : List Frame) :
    (s.headTaken rest).cc = s.cc ∧ (s.headTaken rest).dcu = s.dcu ∧ (s.headTaken rest).now = s.now
      ∧ (s.headTaken rest).straps = s.straps ∧ (s.headTaken rest).hsu = s.hsu
      ∧ (s.headTaken rest).port = s.port ∧ (s.headTaken rest).endA = s.endA ∧ (s.headTaken rest).endB = s.endB := by
  obtain ⟨lhu, lau, fallen⟩ := (s.setRxp { s.rxp with queue := rest }).noteFall_eq rest.length
  rw [State.headTaken, fallen]
  exact ⟨rfl, rfl, rfl, rfl, rfl, rfl, rfl, rfl⟩

section Take

variable {s : State} {f : Frame} {rest : List Frame} (hr : s.inReset = false) (queue : s.rxp.queue = f :: rest)
  (free : s.consumerBusy f.kind = false)

include hr queue free

theorem exec_frameTake_handed (handed : f.number = s.cc.number ∨ f.hasCloseAction = true) :
    exec .frameTake s = .next ((s.headTaken rest).consume f) := by
  obtain ⟨cc, -⟩ := s.headTaken_frame rest
  rw [exec_frameTake, execFrameTake_free s f rest hr queue free, State.takeHead]
  exact congrArg Host.Outcome.next (if_pos (handed.imp_left fun equal => equal.trans (congrArg Cc.number cc.symm)))

theorem exec_frameTake_stale (other : f.number ≠ s.cc.number) (noClose : f.hasCloseAction = false) :
    exec .frameTake s = .next ((s.headTaken rest).count .staleFrames) := by
  obtain ⟨cc, -⟩ := s.headTaken_frame rest
  rw [exec_frameTake, execFrameTake_free s f rest hr queue free, State.takeHead]
  refine congrArg Host.Outcome.next (if_neg fun handed => ?_)
  obtain equal | close := handed
  · exact other (equal.trans (congrArg Cc.number cc))
  · rw [noClose] at close
    nomatch close

end Take

section Received

variable (s : State) (sender : NodeId) (n : FormationNumber) (c : DoorCmd)

theorem State.receiveRelease_notFormed (out : s.cc.formState ≠ .formed) :
    s.receiveRelease sender c = s.refuseRelease c.issuer .notFormed :=
  if_pos (by rw [s.isFormed_eq_false_iff.mpr out]; rfl)

theorem State.receiveRelease_notCommanding (formed : s.cc.formState = .formed)
    (other : s.cc.table.activeCab ≠ some sender) :
    s.receiveRelease sender c = s.refuseRelease c.issuer .notCommandingCab := by
  simp [State.receiveRelease, s.isFormed_eq_true_iff.mpr formed, other]

theorem State.receiveRelease_accepted (formed : s.cc.formState = .formed)
    (active : s.cc.table.activeCab = some sender) :
    s.receiveRelease sender c =
      if c.rangeFrom ≤ s.ownPosition ∧ s.ownPosition ≤ c.rangeTo then s.releaseLeaves (s.sidesOf c.side) s.cc.number
      else s := by
  simp [State.receiveRelease, s.isFormed_eq_true_iff.mpr formed, active, s.inRange_eq_true_iff c]

theorem State.receiveClose_eq :
    s.receiveClose n c =
      if s.cc.formState = .formed then
        if n = s.cc.number ∧ ¬(c.rangeFrom ≤ s.ownPosition ∧ s.ownPosition ≤ c.rangeTo) then s
        else s.closeLeaves (s.sidesOf c.side)
      else s.closeLeaves [.one, .two] := by
  unfold State.receiveClose
  simp only [s.isFormed_eq_true_iff, s.inRange_eq_true_iff c]
  by_cases formed : s.cc.formState = .formed
  · by_cases equal : n = s.cc.number
    · by_cases range : c.rangeFrom ≤ s.ownPosition ∧ s.ownPosition ≤ c.rangeTo
      · simp [formed, equal, range]
      · simp only [formed, equal, range, if_true, if_false, true_and, not_false_eq_true]
    · simp [formed, equal]
  · simp [formed]

end Received

/-- What the lookup of a DOORCMD that is taken leaves, which the rules for RELEASE and CLOSE read. -/
theorem State.looked_headTaken (s : State) (f : Frame) (rest : List Frame) (c : DoorCmd) :
    (s.headTaken rest).looked f c
        = (s.headTaken rest).setDcu { s.dcu with dedup := (dedupLookup s.dcu.dedup f.sender c.seq s.now).2 }
      ∧ ((s.headTaken rest).looked f c).cc = s.cc ∧ ((s.headTaken rest).looked f c).ownPosition = s.ownPosition
      ∧ ((s.headTaken rest).looked f c).sidesOf c.side = s.sidesOf c.side := by
  obtain ⟨lhu, lau, fallen⟩ := (s.setRxp { s.rxp with queue := rest }).noteFall_eq rest.length
  rw [State.headTaken, fallen]
  exact ⟨rfl, rfl, rfl, rfl⟩

/-! ### The statement -/

/-- Settles O49: the passages of the leaves, the lookup, and the branches of the take. -/
theorem leafCommandsAct : Obligations.LeafCommandsAct := by
  unfold Obligations.LeafCommandsAct
  refine ⟨fun s sides n => ⟨s.releaseLeaves_refused sides n, fun formed number i l found => ?_, fun i l found => ?_⟩,
    fun ds issuer seq now => ⟨fun d found => ⟨dedupLookup_known ds issuer seq now d found,
      dedupLookup_new ds issuer seq now d found⟩, dedupLookup_stranger ds issuer seq now⟩,
    fun s f rest hr queue kind => ⟨fun invalid handed => ?_, fun other noClose => ?_, fun c decoded handed => ?_⟩⟩
  · subst number
    have leaf := s.releaseLeaves_leaf? sides formed found
    have index := s.leaf?_index i l found
    rw [← index]
    rw [← index] at leaf found
    refine ⟨fun named active => ?_, fun stays => leaf.trans (congrArg some ?_)⟩
    · have passed : passedLeaf sides Leaf.release l = { l with state := .released, watch := none } :=
        (passedLeaf_named named).trans (l.release_active active)
      refine ⟨leaf.trans (congrArg some passed), fun sound c hc => ?_⟩
      exact ((s.releaseLeaves_kept sides s.cc.number).leaves sound).released_off leaf (by rw [passed]) c hc
    · obtain other | rests := stays
      · exact passedLeaf_other other
      · unfold passedLeaf
        rw [l.release_resting rests, ite_self]
  · have leaf := s.closeLeaves_leaf? sides found
    have index := s.leaf?_index i l found
    rw [← index]
    rw [← index] at leaf found
    refine ⟨fun named opens => ⟨?_, fun sound c hc => ?_⟩, fun stays => leaf.trans (congrArg some ?_)⟩
    · exact leaf.trans (congrArg some ((passedLeaf_named named).trans (congrArg Prod.fst (l.close_opens opens))))
    · obtain ⟨-, nodup, -⟩ := sound
      have order : passedOrder sides Leaf.close l = .start 3000 11000 :=
        (if_pos named).trans (congrArg Prod.snd (l.close_opens opens))
      rw [s.closeLeaves_channel? sides nodup found, order, hc]
      rfl
    · obtain other | closed := stays
      · exact passedLeaf_other other
      · unfold passedLeaf
        rw [l.close_other closed, ite_self]
  · have free : s.consumerBusy f.kind = false := by rw [kind]; rfl
    rw [exec_frameTake_handed hr queue free (handed.imp_right (f.hasCloseAction_iff kind).mpr), State.consume, kind]
    exact congrArg Host.Outcome.next (State.takeDoorcmd_invalid _ f invalid)
  · have free : s.consumerBusy f.kind = false := by rw [kind]; rfl
    refine exec_frameTake_stale hr queue free other (Bool.eq_false_iff.mpr fun close => noClose ?_)
    exact (f.hasCloseAction_iff kind).mp close
  · have free : s.consumerBusy f.kind = false := by rw [kind]; rfl
    have close : c.action = .close → f.hasCloseAction = true := fun action => by
      rw [f.hasCloseAction_iff kind, ← doorActionOf_close_iff, doorCmdOf_action decoded, action]
    have taken : exec .frameTake s = .next ((s.headTaken rest).takeDoorcmd f) := by
      rw [exec_frameTake_handed hr queue free (handed.imp_right close), State.consume, kind]
    obtain ⟨same, cc, position, sides⟩ := s.looked_headTaken f rest c
    obtain ⟨-, dcu, now, -⟩ := s.headTaken_frame rest
    rw [taken]
    rw [← dcu, ← now] at same ⊢
    refine ⟨fun known => ?_, fun new action => ⟨fun out => ?_, fun formed other => ?_, fun formed active => ?_⟩,
      fun new action => ?_⟩
    · exact congrArg Host.Outcome.next ((State.takeDoorcmd_repeat _ f decoded known).trans same)
    · rw [State.takeDoorcmd_release _ f decoded new action, State.receiveRelease_notFormed _ _ _ (cc ▸ out)]
      rfl
    · rw [State.takeDoorcmd_release _ f decoded new action,
        State.receiveRelease_notCommanding _ _ _ (cc ▸ formed) (cc ▸ other)]
      rfl
    · rw [State.takeDoorcmd_release _ f decoded new action,
        State.receiveRelease_accepted _ _ _ (cc ▸ formed) (cc ▸ active), position, sides, cc]
      rfl
    · rw [State.takeDoorcmd_close _ f decoded new action, State.receiveClose_eq, position, sides, cc]
      rfl

end Sys2Proof.Machine
end

section
/-! The settled statement about full lists (R80, R82 to R84, R88, R91). -/

namespace Sys2Proof.Machine

/-! ### The full policy (R83, R84) -/

theorem displaceOldest_found (pre post : List Frame) (x : Frame) (safety : ∀ g ∈ pre, g.kind.isSafety = true)
    (gives : x.kind.isSafety = false) : displaceOldest (pre ++ x :: post) = some (pre ++ post) := by
  induction pre with
  | nil => exact if_neg (ne_true_of_eq_false gives)
  | cons g gs ih =>
    obtain ⟨here, rest⟩ := List.forall_mem_cons.mp safety
    rw [List.cons_append, displaceOldest, if_pos here, ih rest]
    rfl

theorem displaceOldest_none (q : List Frame) (safety : ∀ g ∈ q, g.kind.isSafety = true) : displaceOldest q = none := by
  induction q with
  | nil => rfl
  | cons g gs ih =>
    obtain ⟨here, rest⟩ := List.forall_mem_cons.mp safety
    rw [displaceOldest, if_pos here, ih rest]
    rfl

theorem fullPolicy_displaces (policy : RxPolicy) (f : Frame) (pre post : List Frame) (x : Frame)
    (safety : ∀ g ∈ pre, g.kind.isSafety = true) (gives : x.kind.isSafety = false)
    (takes : f.kind.isSafety = true ∨ policy = .keepNew) :
    fullPolicy policy (pre ++ x :: post) f = pre ++ post ++ [f] := by
  rw [fullPolicy, if_pos takes, displaceOldest_found pre post x safety gives]

theorem fullPolicy_allSafety (policy : RxPolicy) (q : List Frame) (f : Frame)
    (safety : ∀ g ∈ q, g.kind.isSafety = true) : fullPolicy policy q f = q := by
  rw [fullPolicy, displaceOldest_none q safety, ite_self]

theorem fullPolicy_keepOld (q : List Frame) (f : Frame) (other : f.kind.isSafety = false) :
    fullPolicy .keepOld q f = q :=
  if_neg (by simp [other])

/-! ### The hold list (R91) -/

section Hold

variable (hs : List HoldEntry) (peer : NodeId) (ms : Nat) (now : Time)

/-- The other peers' entries leave room when the sender has one of at most four, or there are fewer. -/
theorem others_room (room : peer ∈ hs.map HoldEntry.peer ∧ hs.length ≤ 4 ∨ hs.length < 4) :
    (hs.filter fun h => h.peer ≠ peer).length < 4 := by
  obtain ⟨known, bound⟩ | fewer := room
  · obtain ⟨e, member, named⟩ := List.mem_map.mp known
    exact Nat.lt_of_lt_of_le (List.length_filter_lt_length_iff_exists.mpr ⟨e, member, by simp [named]⟩) bound
  · exact Nat.lt_of_le_of_lt (List.length_filter_le _ _) fewer

theorem holdListAfter_joins (positive : 0 < ms)
    (room : peer ∈ hs.map HoldEntry.peer ∧ hs.length ≤ 4 ∨ hs.length < 4) :
    holdListAfter hs peer ms now
      = hs.filter (fun h => h.peer ≠ peer) ++ [{ peer := peer, expiresAt := now + min ms 1000 * 1000 }] := by
  unfold holdListAfter
  rw [if_neg (Nat.ne_of_gt positive)]
  exact if_pos (others_room hs peer room)

theorem leastExpiry_le_of_mem {e : HoldEntry} (mem : e ∈ hs) : leastExpiry hs ≤ e.expiresAt := by
  induction hs with
  | nil => nomatch mem
  | cons a as ih =>
    cases as with
    | nil => exact (List.mem_singleton.mp mem) ▸ Nat.le_refl _
    | cons b bs =>
      change min a.expiresAt (leastExpiry (b :: bs)) ≤ e.expiresAt
      obtain rfl | later := List.mem_cons.mp mem
      · exact Nat.min_le_left _ _
      · exact Nat.le_trans (Nat.min_le_right _ _) (ih later)

/-- The least expiry time of a list that is not empty is that of an entry. -/
theorem leastExpiry_mem (a : HoldEntry) (as : List HoldEntry) : ∃ e ∈ a :: as, e.expiresAt = leastExpiry (a :: as) := by
  induction as generalizing a with
  | nil => exact ⟨a, List.mem_singleton_self a, rfl⟩
  | cons b bs ih =>
    have least : leastExpiry (a :: b :: bs) = min a.expiresAt (leastExpiry (b :: bs)) := rfl
    obtain here | later := min_choice a.expiresAt (leastExpiry (b :: bs))
    · exact ⟨a, List.mem_cons_self, (least.trans here).symm⟩
    · obtain ⟨e, mem, time⟩ := ih b
      exact ⟨e, List.mem_cons_of_mem a mem, time.trans (least.trans later).symm⟩

theorem leastExpiry_split (pre post : List HoldEntry) (x : HoldEntry) (before : ∀ h ∈ pre, x.expiresAt < h.expiresAt)
    (after : ∀ h ∈ post, x.expiresAt ≤ h.expiresAt) : leastExpiry (pre ++ x :: post) = x.expiresAt := by
  have member : x ∈ pre ++ x :: post := List.mem_append_right pre List.mem_cons_self
  have nonempty : pre ++ x :: post ≠ [] := List.ne_nil_of_mem member
  obtain ⟨a, as, list⟩ := List.exists_cons_of_ne_nil nonempty
  obtain ⟨e, mem, time⟩ := leastExpiry_mem a as
  rw [← list] at mem time
  have above : x.expiresAt ≤ e.expiresAt := by
    obtain earlier | here := List.mem_append.mp mem
    · exact Nat.le_of_lt (before e earlier)
    · obtain rfl | later := List.mem_cons.mp here
      · exact Nat.le_refl _
      · exact after e later
  exact Nat.le_antisymm (leastExpiry_le_of_mem _ member) (time ▸ above)

theorem dropExpiry_split (t : Time) (pre post : List HoldEntry) (x : HoldEntry) (before : ∀ h ∈ pre, h.expiresAt ≠ t)
    (here : x.expiresAt = t) : dropExpiry t (pre ++ x :: post) = pre ++ post := by
  induction pre with
  | nil => exact if_pos here
  | cons a as ih =>
    obtain ⟨other, rest⟩ := List.forall_mem_cons.mp before
    rw [List.cons_append, dropExpiry, if_neg other, ih rest, List.cons_append]

/-- A fifth peer takes the place of the entry of least remaining time. -/
theorem holdListAfter_replaces (pre post : List HoldEntry) (x : HoldEntry) (positive : 0 < ms)
    (stranger : peer ∉ hs.map HoldEntry.peer) (full : hs.length = 4) (split : hs = pre ++ x :: post)
    (before : ∀ h ∈ pre, x.expiresAt < h.expiresAt) (after : ∀ h ∈ post, x.expiresAt ≤ h.expiresAt) :
    holdListAfter hs peer ms now
      = pre ++ post ++ [{ peer := peer, expiresAt := now + min ms 1000 * 1000 }] := by
  have others : hs.filter (fun h => h.peer ≠ peer) = hs :=
    List.filter_eq_self.mpr fun h mem => decide_eq_true fun same => stranger (same ▸ List.mem_map_of_mem mem)
  have dropped : dropExpiry (leastExpiry hs) hs = pre ++ post := by
    rw [split, leastExpiry_split pre post x before after]
    exact dropExpiry_split _ pre post x (fun h mem => Nat.ne_of_gt (before h mem)) rfl
  unfold holdListAfter
  dsimp only
  rw [if_neg (Nat.ne_of_gt positive), others, dropped]
  exact if_neg (Nat.not_lt.mpr (Nat.le_of_eq full.symm))

end Hold

/-! ### The arrival at a full queue (R80, R83, R84) -/

theorem State.routeFrame_accepted (s : State) (f : Frame) (noHold : f.kind ≠ .hold)
    (accepted : f.number = s.cc.number ∨ isNewer f.number s.cc.number = true ∨ f.isClose = true) :
    s.routeFrame f = ((s.count .framesReceived).sight f).enqueue f := by
  have passes : accepts s.cc.number f = true := by
    obtain equal | newer | close := accepted
    · simp [accepts, equal]
    · simp [accepts, newer]
    · simp [accepts, close]
  rw [State.routeFrame, if_neg noHold, if_pos passes]
  rfl

/-- An accepted frame counts FRAMES_RECEIVED. -/
theorem State.acceptFrame_counts (s : State) (f : Frame) (length : s.port.counters.length = 14) :
    (((s.count .framesReceived).sight f).enqueue f).port.counter 1 = s.port.counter 1 + 1 := by
  rw [State.enqueue_counter _ f 1 (by decide), Port.counter, State.sight_portCounters]
  exact s.count_counter .framesReceived length

theorem State.enqueue_full (s : State) (f : Frame) (full : 16 ≤ s.rxp.queue.length) :
    s.enqueue f = (s.setRxp { s.rxp with queue := fullPolicy s.straps.rxPolicy s.rxp.queue f }).count .receiveDrops :=
  if_neg (Nat.not_lt.mpr full)

/-- Settles O43: the policy, the list, and an arrival that finds 16 entries. -/
theorem fullListsMakeRoom : Obligations.FullListsMakeRoom := by
  unfold Obligations.FullListsMakeRoom
  refine ⟨fun policy q f => ⟨?_, fullPolicy_allSafety policy q f, ?_⟩,
    fun hs peer ms now _ => ⟨fun zero => if_pos zero, holdListAfter_joins hs peer ms now, ?_⟩,
    fun s r f hr carrier receiving checked noHold accepted full => ?_⟩
  · rintro pre post x rfl safety gives takes
    exact fullPolicy_displaces policy f pre post x safety gives takes
  · rintro other rfl
    exact fullPolicy_keepOld q f other
  · exact fun pre post x => holdListAfter_replaces hs peer ms now pre post x
  · refine ⟨_, exec_frameArrival_checked s r f hr carrier receiving checked, ?_⟩
    rw [s.receptionEnded.routeFrame_accepted f noHold accepted]
    have received := s.receptionEnded.acceptFrame_counts f
    obtain ⟨rxp, lhu, straps, endA, endB, dlc, -⟩ := (s.receptionEnded.count .framesReceived).sight_frame f
    have counters : ((s.receptionEnded.count .framesReceived).sight f).port.counters
        = s.port.counters.set 1 (s.port.counter 1 + 1) := by
      rw [State.sight_portCounters, State.count_portCounters]
      rfl
    generalize (s.receptionEnded.count .framesReceived).sight f = t at received rxp lhu straps endA endB dlc counters ⊢
    have queue : t.rxp.queue = s.rxp.queue := by rw [rxp]; rfl
    have dropped := t.enqueue_full f (queue ▸ full)
    refine ⟨?_, fun length => ⟨?_, received length⟩, ?_, ?_, ?_, ?_, ?_⟩
    · rw [dropped, ← queue]
      exact congrArg (fullPolicy · _ f) (congrArg Straps.rxPolicy straps)
    · have length' : t.port.counters.length = 14 := by rw [counters, List.length_set, length]
      rw [dropped]
      refine (State.count_counter _ .receiveDrops length').trans (congrArg (· + 1) ?_)
      rw [Port.counter, counters]
      simp [Port.counter, Counter.index, List.getD_eq_getElem?_getD]
    · rw [dropped]
      exact lhu
    · rw [dropped]
      exact straps
    · rw [dropped]
      exact endA
    · rw [dropped]
      exact endB
    · rw [dropped]
      exact dlc

end Sys2Proof.Machine
end

section
/-! The settled statement about arrivals (R17, R22, R52, R77 to R80, R82, R88). -/

namespace Sys2Proof.Machine

/-! ### The end of a reception (R77, R78) -/

theorem exec_frameArrival_unreceived (s : State) (r : Reception) (hr : s.inReset = false)
    (carrier : s.pins.peerCarrier = true) (idle : s.rxp.receiving = false) :
    exec (.frameArrival r) s = .next ((s.setPins { s.pins with peerCarrier := false }).endCarrier) := by
  rw [exec_frameArrival, execFrameArrival, if_pos carrier, State.inService_running _ _ (by simpa using hr)]
  exact congrArg Host.Outcome.next (if_neg (ne_true_of_eq_false idle))

theorem exec_frameArrival_ended (s : State) (r : Reception) (hr : s.inReset = false)
    (carrier : s.pins.peerCarrier = true) (receiving : s.rxp.receiving = true) :
    exec (.frameArrival r) s = .next (s.receptionEnded.endReception r) := by
  rw [exec_frameArrival, execFrameArrival, if_pos carrier, State.inService_running _ _ (by simpa using hr)]
  exact congrArg Host.Outcome.next (if_pos receiving)

theorem State.endReception_failed (s : State) (r : Reception) (fails : checkReception s.id r = none) :
    s.endReception r = s.count .checkErrors := by
  rw [State.endReception, fails]

theorem State.routeFrame_hold (s : State) (f : Frame) (hold : f.kind = .hold) :
    s.routeFrame f = (s.count .framesReceived).takeHold f :=
  if_pos hold

theorem State.routeFrame_stale (s : State) (f : Frame) (noHold : f.kind ≠ .hold) (other : f.number ≠ s.cc.number)
    (older : isNewer f.number s.cc.number = false) (noClose : f.isClose = false) :
    s.routeFrame f = s.count .staleFrames := by
  rw [State.routeFrame, if_neg noHold, if_neg (by simp [accepts, other, older, noClose])]

/-! ### The queue and its occupancy (R82, R88) -/

section Enqueue

variable (s : State) (f : Frame)

theorem State.enqueue_room (room : s.rxp.queue.length < 16) :
    s.enqueue f = (s.setRxp { s.rxp with queue := s.rxp.queue ++ [f] }).noteRise s.rxp.queue.length
      (s.rxp.queue.length + 1) :=
  if_pos room

/-- The frame that makes 12 while not congested sets the flag and submits a HOLD. -/
theorem State.enqueue_congests (twelfth : s.rxp.queue.length = 11) (calm : s.lhu.congested = false) :
    (s.enqueue f).lhu = { s.lhu with congested := true }
      ∧ ∃ h, (s.enqueue f).lau.holdSlot = some h ∧ h.kind = .hold ∧ holdOf h.payload = 200
          ∧ h.number = (s.enqueue f).cc.number := by
  have rises : s.enqueue f
      = ((s.setRxp { s.rxp with queue := s.rxp.queue ++ [f] }).setLhu { s.lhu with congested := true }).submitHold
          Config.holdSendMs := by
    rw [s.enqueue_room f (by rw [twelfth]; decide), State.noteRise, twelfth]
    exact if_pos ⟨by decide, by decide, calm⟩
  rw [rises]
  exact ⟨rfl, _, rfl, rfl, holdOf_sent, rfl⟩

theorem State.enqueue_lhu (other : s.rxp.queue.length ≠ 11 ∨ s.lhu.congested = true) :
    (s.enqueue f).lhu = s.lhu := by
  by_cases room : s.rxp.queue.length < 16
  · have kept : ¬(s.rxp.queue.length < 12 ∧ 12 ≤ s.rxp.queue.length + 1 ∧ s.lhu.congested = false) := by
      rintro ⟨below, reached, calm⟩
      obtain length | congested := other
      · omega
      · rw [calm] at congested
        nomatch congested
    rw [s.enqueue_room f room, State.noteRise]
    split
    case isTrue rises => exact absurd rises kept
    case isFalse => rfl
  · rw [s.enqueue_full f (Nat.not_lt.mp room)]
    rfl

theorem State.count_notices_append (c : Counter) : ∃ more, (s.count c).port.notices = s.port.notices ++ more := by
  rw [State.count_eq, State.setPort_port]
  unfold Port.count
  dsimp only
  split
  · exact (s.setPort { s.port with counters := _ }).post_notices_append _
  · exact ⟨[], (List.append_nil _).symm⟩

/-- What waits in the notice queue waits on when a frame is queued. -/
theorem State.mem_enqueue_notices (n : Notice) (mem : n ∈ s.port.notices) : n ∈ (s.enqueue f).port.notices := by
  obtain ⟨lhu, lau, queued, -⟩ | ⟨-, dropped⟩ := s.enqueue_cases f
  · rw [queued]
    exact mem
  · obtain ⟨more, notices⟩ :=
      (s.setRxp { s.rxp with queue := fullPolicy s.straps.rxPolicy s.rxp.queue f }).count_notices_append .receiveDrops
    rw [dropped, notices]
    exact List.mem_append_left _ mem

end Enqueue

/-! ### The sighting (R17, R22, R52) -/

section Sighting

variable (s : State) (f : Frame)

/-- An older number is no sighting. -/
theorem State.sight_older (other : f.number ≠ s.cc.number) (older : isNewer f.number s.cc.number = false) :
    s.sight f = s := by
  rw [State.sight, if_neg (ne_true_of_eq_false older), if_neg other]

theorem State.sightEqual_member (sender : NodeId) (formed : s.cc.formState = .formed) {p : Nat}
    (member : s.cc.table.positionOf sender = some p) : s.sightEqual sender = s.hearMember sender p := by
  rw [State.sightEqual, if_pos (s.isFormed_eq_true_iff.mpr formed), member]

theorem State.sightEqual_stranger (sender : NodeId) (formed : s.cc.formState = .formed)
    (stranger : s.cc.table.positionOf sender = none) :
    s.sightEqual sender = if s.cc.table.partialFlag then s else s.startFormation .stranger := by
  rw [State.sightEqual, if_pos (s.isFormed_eq_true_iff.mpr formed), stranger]

theorem State.hearMember_cc (id : NodeId) (p : Nat) :
    (s.hearMember id p).cc = { s.cc with table := s.cc.table.hear id s.now } := by
  unfold State.hearMember
  dsimp only
  split <;> rfl

/-- A member that was SILENT is heard again (R52). -/
theorem State.hearMember_heard (id : NodeId) (p : Nat) (x : TableEntry) (entry : s.cc.table.entryAt p = some x)
    (silent : x.silent = true) (room : s.port.notices.length < 16) :
    .memberHeard p ∈ (s.hearMember id p).port.notices := by
  have was : (s.cc.table.entryAt p).any (fun e => e.silent) = true := by rw [entry]; exact silent
  unfold State.hearMember
  dsimp only
  rw [if_pos was, State.post_notices _ _ (by exact room)]
  exact List.mem_append_right _ (List.mem_singleton_self _)

end Sighting

/-! ### The statement -/

/-- A sighting of an equal number in FORMED, and the frame that is queued after it. -/
theorem State.sightEqual_queued (s u : State) (f : Frame) (formed : s.cc.formState = .formed)
    (queued : u = (s.sightEqual f.sender).enqueue f) :
    (∀ p, s.cc.table.positionOf f.sender = some p →
        u.cc = { s.cc with table := s.cc.table.hear f.sender s.now }
        ∧ (∀ x, s.cc.table.entryAt p = some x → x.silent = true → s.port.notices.length < 16 →
            .memberHeard p ∈ u.port.notices))
      ∧ (s.cc.table.positionOf f.sender = none → s.cc.table.partialFlag = true → u.cc = s.cc)
      ∧ (s.cc.table.positionOf f.sender = none → s.cc.table.partialFlag = false → startedFormation s u .stranger) := by
  obtain ⟨cc, slot, -⟩ := (s.sightEqual f.sender).enqueue_frame f
  rw [← queued] at cc slot
  refine ⟨fun p member => ?_, fun stranger flag => ?_, fun stranger flag => ?_⟩
  · have heard := s.sightEqual_member f.sender formed member
    rw [heard] at cc queued
    refine ⟨cc.trans (s.hearMember_cc f.sender p), fun x entry silent room => ?_⟩
    rw [queued]
    exact State.mem_enqueue_notices _ f _ (s.hearMember_heard f.sender p x entry silent room)
  · rw [cc, s.sightEqual_stranger f.sender formed stranger, if_pos flag]
  · rw [s.sightEqual_stranger f.sender formed stranger, if_neg (ne_true_of_eq_false flag)] at cc slot
    rw [startedFormation, cc, slot]
    exact s.startFormation_started .stranger

/-- What the acceptance of a frame that is not newer does: counted, sighted, queued. -/
theorem State.acceptFrame_result (s : State) (f : Frame)
    (equalOrOlder : f.number = s.cc.number ∨ isNewer f.number s.cc.number = false) :
    let u := ((s.count .framesReceived).sight f).enqueue f
    u.rxp.receiving = s.rxp.receiving ∧ u.endA = s.endA ∧ u.endB = s.endB ∧ u.dlc = s.dlc ∧ u.otb = s.otb
      ∧ (s.port.counters.length = 14 → u.port.counter 1 = s.port.counter 1 + 1)
      ∧ (s.rxp.queue.length < 16 → u.rxp.queue = s.rxp.queue ++ [f])
      ∧ (s.rxp.queue.length = 11 → s.lhu.congested = false →
          u.lhu = { s.lhu with congested := true }
          ∧ ∃ h, u.lau.holdSlot = some h ∧ h.kind = .hold ∧ holdOf h.payload = 200 ∧ h.number = u.cc.number)
      ∧ (s.rxp.queue.length ≠ 11 ∨ s.lhu.congested = true → u.lhu = s.lhu)
      ∧ ((f.number ≠ s.cc.number ∨ s.cc.formState ≠ .formed) → u.cc = s.cc)
      ∧ (f.number = s.cc.number → s.cc.formState = .formed →
        (∀ p, s.cc.table.positionOf f.sender = some p →
          u.cc = { s.cc with table := s.cc.table.hear f.sender s.now }
          ∧ (∀ x, s.cc.table.entryAt p = some x → x.silent = true → s.port.notices.length < 15 →
              .memberHeard p ∈ u.port.notices))
        ∧ (s.cc.table.positionOf f.sender = none → s.cc.table.partialFlag = true → u.cc = s.cc)
        ∧ (s.cc.table.positionOf f.sender = none → s.cc.table.partialFlag = false →
            startedFormation s u .stranger)) := by
  intro u
  obtain ⟨rxp, lhu, -, endA, endB, dlc, otb, -⟩ := (s.count .framesReceived).sight_frame f
  obtain ⟨cc', -, endA', endB', dlc', otb', -, receiving'⟩ := ((s.count .framesReceived).sight f).enqueue_frame f
  have received := s.acceptFrame_counts f
  have rxp' : ((s.count .framesReceived).sight f).rxp = s.rxp := rxp
  have lhu' : ((s.count .framesReceived).sight f).lhu = s.lhu := lhu
  refine ⟨receiving'.trans (congrArg Rxp.receiving rxp), endA'.trans endA, endB'.trans endB, dlc'.trans dlc,
    otb'.trans otb, received, fun room => ?_, fun twelfth calm => ?_, fun other => ?_, fun other => cc'.trans ?_,
    fun equal formed => ?_⟩
  · rw [← rxp'] at room ⊢
    exact State.enqueue_queue _ f room
  · rw [← rxp'] at twelfth
    rw [← lhu'] at calm ⊢
    exact State.enqueue_congests _ f twelfth calm
  · rw [← rxp', ← lhu'] at other
    exact (State.enqueue_lhu _ f other).trans lhu'
  · by_cases equal : f.number = s.cc.number
    · rw [(s.count .framesReceived).sight_equal f equal,
        (s.count .framesReceived).sightEqual_notFormed _ (other.resolve_left (not_not_intro equal))]
      rfl
    · rw [(s.count .framesReceived).sight_older f equal (equalOrOlder.resolve_left equal)]
      rfl
  · have queued : u = ((s.count .framesReceived).sightEqual f.sender).enqueue f := by
      rw [← (s.count .framesReceived).sight_equal f equal]
    obtain ⟨member, partialTable, stranger⟩ := (s.count .framesReceived).sightEqual_queued u f formed queued
    refine ⟨fun p known => ⟨(member p known).1, fun x entry silent room => ?_⟩, partialTable, stranger⟩
    have counted : (s.count .framesReceived).port.notices.length ≤ s.port.notices.length + 1 :=
      Port.count_notices_length _ _
    exact (member p known).2 x entry silent (by omega)

/-- Settles O38: the checks, the kind and the number choose the route; an accepted frame is counted, sighted and
queued. -/
theorem arrivalsAreCheckedAndRouted : Obligations.ArrivalsAreCheckedAndRouted := by
  intro s r hr carrier
  refine ⟨exec_frameArrival_unreceived s r hr carrier, fun receiving => ⟨fun fails => ?_, fun f checked hold => ?_,
    fun f checked noHold other older noClose => ?_, fun f checked noHold accepted => ?_⟩⟩
  · rw [exec_frameArrival_ended s r hr carrier receiving]
    exact congrArg Host.Outcome.next (s.receptionEnded.endReception_failed r fails)
  · rw [exec_frameArrival_checked s r f hr carrier receiving checked]
    exact congrArg Host.Outcome.next (s.receptionEnded.routeFrame_hold f hold)
  · rw [exec_frameArrival_checked s r f hr carrier receiving checked]
    exact congrArg Host.Outcome.next (s.receptionEnded.routeFrame_stale f noHold other older noClose)
  · refine ⟨_, exec_frameArrival_checked s r f hr carrier receiving checked, ?_⟩
    rw [s.receptionEnded.routeFrame_accepted f noHold (accepted.imp_right fun ⟨_, close⟩ => .inr close)]
    exact s.receptionEnded.acceptFrame_result f (accepted.imp_right fun ⟨older, _⟩ => older)

end Sys2Proof.Machine
end

section
/-! The settled statement about frames on the line (R78, R186, R187). -/

namespace Sys2Proof.Machine

/-! ### Numbers and their bytes (00_scope.md section 6) -/

theorem byteAt_value (v i : Nat) : (byteAt v i).toNat = v / 2 ^ (8 * i) % 256 := by
  rw [byteAt, BitVec.toNat_ofNat, Nat.shiftRight_eq_div_pow]

theorem numberOf_bytes16 (v : Nat) (bound : v < 65536) : numberOf (bytes16 v) = v := by
  simp only [numberOf, bytes16, List.foldl_cons, List.foldl_nil, byteAt_value]
  omega

theorem numberOf_bytes32 (v : Nat) (bound : v < 4294967296) : numberOf (bytes32 v) = v := by
  simp only [numberOf, bytes32, List.foldl_cons, List.foldl_nil, byteAt_value]
  omega

theorem ofNat_numberOf_bytes16 (v : BitVec 16) : BitVec.ofNat 16 (numberOf (bytes16 v.toNat)) = v := by
  rw [numberOf_bytes16 _ v.isLt, BitVec.ofNat_toNat, BitVec.setWidth_eq]

theorem ofNat_numberOf_bytes32 (v : BitVec 32) : BitVec.ofNat 32 (numberOf (bytes32 v.toNat)) = v := by
  rw [numberOf_bytes32 _ v.isLt, BitVec.ofNat_toNat, BitVec.setWidth_eq]

/-! ### The bytes of a frame (R186, R187) -/

theorem FrameKind.ofCode_code (k : FrameKind) : FrameKind.ofCode k.code = some k := by
  cases k <;> rfl

theorem FrameKind.payloadLength_le (k : FrameKind) : k.payloadLength ≤ 20 := by
  cases k <;> decide

section Encode

variable (f : Frame)

/-- The payload with the padding that a short one has (R187). -/
def Frame.padded : List Byte := f.payload ++ List.replicate (5 - f.payload.length) 0x00

theorem Frame.body_eq :
    f.body = f.kind.code :: (bytes32 f.sender.toNat ++ bytes16 f.number.toNat)
      ++ f.position :: BitVec.ofNat 8 f.payload.length :: f.padded := by
  simp [Frame.body, Frame.padded]

theorem Frame.body_length : f.body.length = max 14 (9 + f.payload.length) := by
  rw [f.body_eq, Frame.padded]
  simp [bytes32, bytes16]
  omega

theorem Frame.encode_length : f.encode.length = max 16 (11 + f.payload.length) := by
  rw [Frame.encode, List.length_append, f.body_length]
  simp [bytes16]
  omega

theorem Frame.encode_take : f.encode.take (f.encode.length - 2) = f.body := by
  have length : f.encode.length - 2 = f.body.length := by
    rw [f.encode_length, f.body_length]
    omega
  rw [length, Frame.encode, List.take_left]

theorem Frame.encode_drop : f.encode.drop (f.encode.length - 2) = bytes16 (crc16 f.body).toNat := by
  have length : f.encode.length - 2 = f.body.length := by
    rw [f.encode_length, f.body_length]
    omega
  rw [length, Frame.encode, List.drop_left]

/-- Where the fields of the header stand (R186). -/
theorem Frame.encode_fields :
    f.encode.getD 0 0 = f.kind.code ∧ (f.encode.drop 1).take 4 = bytes32 f.sender.toNat
      ∧ (f.encode.drop 5).take 2 = bytes16 f.number.toNat ∧ f.encode.getD 7 0 = f.position
      ∧ f.encode.getD 8 0 = BitVec.ofNat 8 f.payload.length
      ∧ (f.encode.drop 9).take f.payload.length = f.payload := by
  rw [Frame.encode, f.body_eq, Frame.padded]
  refine ⟨rfl, rfl, rfl, rfl, rfl, ?_⟩
  change (f.payload ++ _ ++ _).take f.payload.length = f.payload
  rw [List.append_assoc, List.take_left]

end Encode

/-- Settles O39: the fields stand where the checks read them. -/
theorem ownFramesPassTheChecks : Obligations.OwnFramesPassTheChecks := by
  intro own f payload position sender other
  have short : f.payload.length ≤ 20 := payload ▸ f.kind.payloadLength_le
  have length := f.encode_length
  have lengthByte : (BitVec.ofNat 8 f.payload.length).toNat = f.payload.length := by
    rw [BitVec.toNat_ofNat]
    exact Nat.mod_eq_of_lt (by omega)
  obtain ⟨kind, senderBytes, numberBytes, positionByte, lengthField, payloadBytes⟩ := f.encode_fields
  refine ⟨length, ?_⟩
  unfold checkReception
  dsimp only
  rw [if_neg (by rw [length]; omega), f.encode_take, f.encode_drop, if_neg (not_not_intro rfl), kind,
    FrameKind.ofCode_code]
  dsimp only
  rw [lengthField, lengthByte, senderBytes, numberBytes, positionByte, payloadBytes, ofNat_numberOf_bytes16,
    ofNat_numberOf_bytes32, if_neg (by rw [payload] at short ⊢; omega), if_neg (not_not_intro length),
    if_neg (Nat.not_lt.mpr position), if_neg (not_or.mpr ⟨sender, other⟩)]

end Sys2Proof.Machine
end

section
/-! The settled statement about the take of the head, and about the ROLL and the TALLY that it hands to the CC (R26,
R27, R32 to R34, R36, R85, R86, R90, R189). -/

namespace Sys2Proof.Machine

/-! ### The head at its consumer (R86, R90) -/

section Head

variable {s : State} {f : Frame} {rest : List Frame} (hr : s.inReset = false) (queue : s.rxp.queue = f :: rest)

include hr queue

/-- A ROLL at an equal number reaches the CC. -/
theorem exec_frameTake_roll (equal : f.number = s.cc.number) (free : s.ccBusy = false) (kind : f.kind = .roll) :
    exec .frameTake s = .next ((s.headTaken rest).takeRoll f) := by
  rw [exec_frameTake_handed hr queue (by rw [kind]; exact free) (.inl equal), State.consume, kind]

/-- A TALLY at an equal number reaches the CC. -/
theorem exec_frameTake_tally (equal : f.number = s.cc.number) (free : s.ccBusy = false) (kind : f.kind = .tally) :
    exec .frameTake s = .next ((s.headTaken rest).takeTally f) := by
  rw [exec_frameTake_handed hr queue (by rw [kind]; exact free) (.inl equal), State.consume, kind]

end Head

/-! ### A ROLL at the CC (R26, R27, R34) -/

section Roll

variable (s : State) (f : Frame)

theorem State.takeRoll_invalid (invalid : rollOf f.sender f.payload = none) : s.takeRoll f = s := by
  rw [State.takeRoll, invalid]

variable {r : RollRecord} (decoded : rollOf f.sender f.payload = some r)

include decoded

theorem State.takeRoll_idle (idle : s.cc.formState = .start ∨ s.cc.formState = .solo) : s.takeRoll f = s := by
  unfold State.takeRoll
  rw [decoded]
  obtain start | solo := idle
  · simp only [start]
  · simp only [solo]

theorem State.takeRoll_compares (compares : s.cc.formState = .tally ∨ s.cc.formState = .formed) :
    s.takeRoll f = s.compareRoll r := by
  unfold State.takeRoll
  rw [decoded]
  obtain tally | formed := compares
  · simp only [tally]
  · simp only [formed]

theorem State.takeRoll_gathers (gather : s.cc.formState = .gather) : s.takeRoll f = s.gatherRoll r := by
  unfold State.takeRoll
  rw [decoded]
  simp only [gather]

end Roll

section Records

variable (s : State) (r : RollRecord)

theorem State.compareRoll_same (same : ∀ x, recordOf s.cc.candidates r.id = some x → x = r) : s.compareRoll r = s := by
  unfold State.compareRoll
  split
  case h_1 x stored => exact if_pos (same x stored)
  case h_2 => rfl

theorem State.compareRoll_changed {x : RollRecord} (stored : recordOf s.cc.candidates r.id = some x) (other : x ≠ r) :
    s.compareRoll r = s.startFormation .rollChanged := by
  rw [State.compareRoll, stored]
  exact if_neg other

/-- A record takes the place of the one of its node, or joins (R26). -/
theorem putRecord_eq (rs : List RollRecord) (r : RollRecord) :
    putRecord rs r =
      if (recordOf rs r.id).isSome then rs.map (fun x => if x.id = r.id then r else x) else rs ++ [r] := by
  have stored : (recordOf rs r.id).isSome = rs.any (fun x => x.id = r.id) := by
    rw [Bool.eq_iff_iff, recordOf, List.find?_isSome, List.any_eq_true]
  rw [stored, putRecord]

theorem State.gatherRoll_full (stranger : recordOf s.cc.candidates r.id = none) (full : 32 ≤ s.cc.candidates.length) :
    s.gatherRoll r =
      if s.cc.oversize then s else (s.setCc { s.cc with oversize := true }).post .candidateOverflow := by
  refine if_neg fun room => ?_
  obtain known | below := room
  · rw [stranger] at known
    nomatch known
  · exact absurd below (Nat.not_lt.mpr full)

/-- The state in which a record has been stored in GATHER (R26). -/
def State.recordPut (s : State) (r : RollRecord) : State :=
  s.setCc { s.cc with candidates := putRecord s.cc.candidates r }

theorem State.gatherRoll_stores (idle : s.cc.ordering = none)
    (room : recordOf s.cc.candidates r.id ≠ none ∨ s.cc.candidates.length < 32) :
    s.gatherRoll r = (s.recordPut r).testClosure := by
  have noRun : ¬((s.recordPut r).cc.ordering.isSome = true) := by
    change ¬(s.cc.ordering.isSome = true)
    rw [idle]
    nofun
  exact (if_pos (room.imp_left Option.isSome_iff_ne_none.mpr)).trans (if_neg noRun)

/-- The closure test starts the ordering computation or leaves the state (R27, R28). -/
theorem State.testClosure_cases (s : State) :
    (closed s.cc.candidates s.cc.oversize s.ownCandidate = true ∧ s.testClosure = s.startOrdering false)
      ∨ (closed s.cc.candidates s.cc.oversize s.ownCandidate = false ∧ s.testClosure = s) := by
  unfold State.testClosure
  cases test : closed s.cc.candidates s.cc.oversize s.ownCandidate with
  | true => exact .inl ⟨rfl, rfl⟩
  | false => exact .inr ⟨rfl, rfl⟩

/-- What a ROLL that is stored in GATHER comes to. -/
theorem State.gatherRoll_result (gather : s.cc.formState = .gather) (idle : s.cc.ordering = none)
    (room : recordOf s.cc.candidates r.id ≠ none ∨ s.cc.candidates.length < 32) :
    let u := s.gatherRoll r
    u.cc.candidates = putRecord s.cc.candidates r
      ∧ (closed u.cc.candidates s.cc.oversize u.ownCandidate = true → u.cc.tGather = none
          ∧ u.cc.ordering = some
              { chain := chainFrom u.cc.candidates u.ownCandidate, partialFlag := false
                endsBy := s.now + Config.ms 4 })
      ∧ (closed u.cc.candidates s.cc.oversize u.ownCandidate = false → u.cc.ordering = none
          ∧ u.cc.tGather = s.cc.tGather)
      ∧ u.cc.formState = .gather ∧ u.cc.number = s.cc.number ∧ u.cc.earlyTallies = s.cc.earlyTallies
      ∧ u.cc.agreement = s.cc.agreement ∧ u.cc.table = s.cc.table ∧ u.port = s.port ∧ u.dcu = s.dcu
      ∧ u.hsu = s.hsu := by
  intro u
  have stores : u = (s.recordPut r).testClosure := s.gatherRoll_stores r idle room
  obtain ⟨test, started⟩ | ⟨test, stays⟩ := (s.recordPut r).testClosure_cases
  · rw [stores, started]
    refine ⟨rfl, fun _ => ⟨rfl, rfl⟩, fun open' => ?_, gather, rfl, rfl, rfl, rfl, rfl, rfl, rfl⟩
    exact absurd (test.symm.trans open') nofun
  · rw [stores, stays]
    refine ⟨rfl, fun closed' => ?_, fun _ => ⟨idle, rfl⟩, gather, rfl, rfl, rfl, rfl, rfl, rfl, rfl⟩
    exact absurd (test.symm.trans closed') nofun

end Records

/-! ### A TALLY at the CC (R32, R33, R36) -/

section Tally

variable (s : State) (f : Frame)

theorem State.takeTally_invalid (invalid : tallyOf f.payload = none) : s.takeTally f = s := by
  rw [State.takeTally, invalid]

variable {t : Tally} (decoded : tallyOf f.payload = some t)

include decoded

theorem State.takeTally_idle
    (idle : s.cc.formState = .start ∨ s.cc.formState = .formed ∨ s.cc.formState = .solo) : s.takeTally f = s := by
  unfold State.takeTally
  rw [decoded]
  obtain state | state | state := idle <;> simp only [state]

theorem State.takeTally_gathers (gather : s.cc.formState = .gather) :
    s.takeTally f
      = s.setCc { s.cc with earlyTallies := putEarly s.cc.earlyTallies { sender := f.sender, tally := t } } := by
  unfold State.takeTally
  rw [decoded]
  simp only [gather]

theorem State.takeTally_compares (tally : s.cc.formState = .tally) : s.takeTally f = s.compareTally f.sender t := by
  unfold State.takeTally
  rw [decoded]
  simp only [tally]

end Tally

section Compare

variable (s : State) {o : CandidateOrder} (sender : NodeId) (t : Tally) (order : s.cc.candidateOrder = some o)

include order

theorem State.compareTally_stranger (stranger : o.positionOf sender = none) : s.compareTally sender t = s := by
  unfold State.compareTally
  rw [order]
  simp only [stranger]

theorem State.compareTally_mismatch {p : Nat} (member : o.positionOf sender = some p) (other : t ≠ o.tally) :
    s.compareTally sender t = s.failFormation .mismatch := by
  unfold State.compareTally
  rw [order]
  simp only [member]
  exact if_neg other

theorem State.compareTally_match {p : Nat} (member : o.positionOf sender = some p) (same : t = o.tally) :
    s.compareTally sender t = (s.setCc (s.cc.agree p)).formIfAgreed o := by
  unfold State.compareTally
  rw [order]
  simp only [member]
  exact if_pos same

end Compare

theorem Cc.agree_set (c : Cc) (p : Nat) :
    c.agree p = { c with agreement := if p ∈ c.agreement then c.agreement else c.agreement ++ [p] } := by
  unfold Cc.agree
  by_cases member : p ∈ c.agreement
  · rw [if_pos (List.contains_iff_mem.mpr member), if_pos member]
  · rw [if_neg (fun held => member (List.contains_iff_mem.mp held)), if_neg member]

/-- FORMED entry commits the table and begins the door status and the bids anew (R36, R143, R165). -/
theorem State.enterFormed_commits (s : State) (o : CandidateOrder) :
    (s.enterFormed o).cc.formState = .formed ∧ (s.enterFormed o).cc.table = commitTable o s.now
      ∧ (s.enterFormed o).cc.number = s.cc.number ∧ (s.enterFormed o).dcu.doorStatus = []
      ∧ (s.enterFormed o).hsu.bids = [] := by
  unfold State.enterFormed
  dsimp only
  refine ⟨?_, ?_, ?_, ?_, State.hsuFormedEntry_hsu _ |>.1⟩
  · rw [State.hsuFormedEntry_cc, State.dcuFormedEntry_cc, State.post_cc, State.followCab_cc]
    rfl
  · rw [State.hsuFormedEntry_cc, State.dcuFormedEntry_cc, State.post_cc, State.followCab_cc]
    rfl
  · rw [State.hsuFormedEntry_cc, State.dcuFormedEntry_cc, State.post_cc, State.followCab_cc]
    rfl
  · rw [State.hsuFormedEntry_dcu]
    exact (State.dcuFormedEntry_dcu _).1

/-! ### The statement -/

/-- Settles O40: the occasion and the number choose the route, and the formation state what a ROLL or a TALLY does. -/
theorem headIsTakenOrDiscarded : Obligations.HeadIsTakenOrDiscarded := by
  unfold Obligations.HeadIsTakenOrDiscarded
  refine ⟨fun s f rest hr queue => ⟨execFrameTake_busy s f rest queue, fun free => ⟨exec_frameTake_stale hr queue free,
    fun equal kind => ?_, exec_frameTake_handed hr queue free⟩⟩, fun s f rest hr queue equal free => ?_⟩
  · rw [exec_frameTake_handed hr queue free (.inl equal), State.consume, kind]
    rfl
  · obtain ⟨cc, dcu, now, straps, hsu, port, -⟩ := s.headTaken_frame rest
    have idle : s.cc.ordering = none := by
      rw [State.ccBusy, Bool.or_eq_false_iff] at free
      exact Option.isNone_iff_eq_none.mp (by simpa using free.1)
    have roll := exec_frameTake_roll hr queue equal free
    have tally := exec_frameTake_tally hr queue equal free
    intro v
    refine ⟨fun kind => ⟨fun invalid => ?_, fun r decoded => ⟨fun idle => ?_, fun compares => ⟨fun same => ?_,
      fun x stored other => ?_⟩, fun gather => ⟨fun stranger full => ?_, fun room => ?_⟩⟩⟩,
      fun kind => ⟨fun invalid => ?_, fun t decoded => ⟨fun idle => ?_, fun gather => ?_, fun o state order =>
        ⟨fun stranger => ?_, fun p member other => ?_, fun p member same => ⟨fun short => ?_, fun all => ?_⟩⟩⟩⟩⟩
    · rw [roll kind, State.takeRoll_invalid _ f invalid]
      rfl
    · rw [roll kind, State.takeRoll_idle _ f decoded (cc ▸ idle)]
      rfl
    · rw [roll kind, State.takeRoll_compares _ f decoded (cc ▸ compares), State.compareRoll_same _ r (cc ▸ same)]
      rfl
    · rw [roll kind, State.takeRoll_compares _ f decoded (cc ▸ compares),
        State.compareRoll_changed _ r (cc ▸ stored) other]
      refine ⟨_, rfl, ?_⟩
      have started := (s.headTaken rest).startFormation_started .rollChanged
      rw [startedFormation, cc, State.id, straps] at started
      exact started
    · rw [roll kind, State.takeRoll_gathers _ f decoded (cc ▸ gather),
        State.gatherRoll_full _ r (cc ▸ stranger) (cc ▸ full), cc]
      rfl
    · rw [roll kind, State.takeRoll_gathers _ f decoded (cc ▸ gather)]
      have result := (s.headTaken rest).gatherRoll_result r (cc ▸ gather) (cc ▸ idle) (cc ▸ room)
      rw [cc, now, port, dcu, hsu, putRecord_eq] at result
      exact ⟨_, rfl, result⟩
    · rw [tally kind, State.takeTally_invalid _ f invalid]
      rfl
    · rw [tally kind, State.takeTally_idle _ f decoded (cc ▸ idle)]
      rfl
    · rw [tally kind, State.takeTally_gathers _ f decoded (cc ▸ gather), cc]
      rfl
    · rw [tally kind, State.takeTally_compares _ f decoded (cc ▸ state),
        State.compareTally_stranger _ _ _ (cc ▸ order) stranger]
      rfl
    · rw [tally kind, State.takeTally_compares _ f decoded (cc ▸ state),
        State.compareTally_mismatch _ _ _ (cc ▸ order) member other]
      rfl
    · rw [tally kind, State.takeTally_compares _ f decoded (cc ▸ state),
        State.compareTally_match _ _ _ (cc ▸ order) member same, cc, Cc.agree_set]
      exact congrArg Host.Outcome.next (State.formIfAgreed_short _ o short)
    · rw [tally kind, State.takeTally_compares _ f decoded (cc ▸ state),
        State.compareTally_match _ _ _ (cc ▸ order) member same, cc, Cc.agree_set, State.formIfAgreed_all _ o all]
      obtain ⟨formed, table, number, doors, bids⟩ := ((s.headTaken rest).setCc { s.cc with
        agreement := if p ∈ s.cc.agreement then s.cc.agreement else s.cc.agreement ++ [p] }).enterFormed_commits o
      refine ⟨_, rfl, formed, table.trans (congrArg _ now), number, doors, bids⟩

end Sys2Proof.Machine
end
